-- ==== Sys2Proof/Word.lean ====
section
/-! DEFINITION. Word.lean: the word types of the block and their plainest arithmetic (00_scope.md R9). -/

namespace Sys2Proof

/-- One byte: a buffer element (R84) or one byte of a colour (R120). -/
abbrev Byte := BitVec 8

/-- A 32-bit operand: a pin identifier, a byte address or a tick field (30_encoding.md R71, P_ADDR_BITS). -/
abbrev Operand := BitVec 32

/-- A 64-bit command, trace or response word (30_encoding.md R71, R79, R85). -/
abbrev Word64 := BitVec 64

/-- `zext_64(v)` of a one-bit value (R9, R79). -/
def zext64 (b : Bool) : Word64 := (BitVec.ofBool b).setWidth 64

@[simp] theorem zext64_false : zext64 false = 0#64 := by decide

@[simp] theorem zext64_true : zext64 true = 1#64 := by decide

end Sys2Proof
end

