-- ==== Sys2Proof/Syntax.lean ====
section
/-! DEFINITION. Syntax.lean: the operations of spec/opcode_table.json, one constructor per row, and the names their
operands and refusals are made of (30_encoding.md R72, R73, R85; 60_exceptions.md R214). -/

namespace Sys2Proof

/-- A level SETPIN drives (43_signal_driver.md R186; trace code LOW = 0, HIGH = 1, R85). -/
inductive Level where
  | low
  | high
  deriving DecidableEq, Repr, Inhabited

/-- What `timer.handler` names (10_state.md R32; codes NONE = 0, FALL = 1, RESUME = 2, GAPDONE = 3). -/
inductive Handler where
  | noHandler
  | fall
  | resume
  | gapDone
  deriving DecidableEq, Repr, Inhabited

/-- The operations of the block, one constructor per row of spec/opcode_table.json (R72). The first four are the
steps the block is offered; the other nine run inside the step that calls them (R12). -/
inductive Instr where
  /-- `init <pin>` (R142). -/
  | init (pin : Operand)
  /-- `write <addr>` (R145 to R148). -/
  | write (addr : Operand)
  /-- `rdlock` (R150). -/
  | rdlock
  /-- `tick` (R190). -/
  | tick
  /-- ADVANCE_LED (R153). -/
  | advanceLed
  /-- ENCODE_BIT (R151). -/
  | encodeBit
  /-- BEGIN_PULSE (R181); its word carries no operand, see notes/assumptions/5.md. -/
  | beginPulse
  /-- ENTER_GAP (R155). -/
  | enterGap
  /-- FALL (R182). -/
  | fall
  /-- RESUME (R156). -/
  | resume
  /-- GAPDONE (R160). -/
  | gapDone
  /-- ARM(ticks, handler) (R188), with the fields of its trace word (R85). -/
  | arm (handler : Handler) (ticks : Operand)
  /-- SETPIN(level) (R186), with the field of its trace word (R85). -/
  | setPin (level : Level)
  deriving DecidableEq, Repr, Inhabited

/-- Why REFUSED(INVARIANT) was met (R214 code 7). The first three are the spec's causes. The others are cases that lie
outside the premises of the pseudocode; notes/assumptions/8.md. All are unreachable from a well-formed reset. -/
inductive InvariantBreach where
  /-- ARM with the timer armed (R188, R189). -/
  | armWhileArmed
  /-- RESUME with `resumeAction` = UNSET (R27, R156). -/
  | resumeUnset
  /-- isBitSet with an index outside 0..23 (R121). -/
  | bitIndex
  /-- ARM with a count outside 1..2^P_TIMER_BITS-1 (the operand's range, R188). DESIGN CHOICE, safe. -/
  | armTicks
  /-- ARM with handler NONE (outside {FALL, RESUME, GAPDONE}, R188). DESIGN CHOICE, safe. -/
  | armHandler
  /-- BufRead with `bufRef` = none (R52 with R58). DESIGN CHOICE, safe. -/
  | noBorrow
  /-- PaletteRead of an index below M that P_PALETTE does not hold, in a configuration that fails R8. DESIGN CHOICE, safe. -/
  | paletteHole
  /-- TICK with the timer armed and its count already 0 (R32, R190). DESIGN CHOICE, safe. -/
  | countZero
  /-- TICK at an expiry whose handler is NONE (R32, R190). DESIGN CHOICE, safe. -/
  | expiryUnnamed
  deriving DecidableEq, Repr

/-- The refusals of R214, which `S.refused` records (10_state.md R21 S17). -/
inductive RefusalCode where
  /-- Code 1, from decode: OPC not assigned (R74, R75). -/
  | reservedOpcode
  /-- Code 2, from decode: RSV or an unused operand is not 0 (R74, R75). -/
  | reservedBits
  /-- Code 3, from decode: an internal operation offered as a step (R74, R76). -/
  | internalOpcode
  /-- Code 4, from decode: INIT with a pin outside P_PINS (R73, R74). -/
  | pinNotInPlatform
  /-- Code 5, from INIT: bound to another pin (R144). -/
  | reinitOtherPin
  /-- Code 6, from power-on: the configuration fails R8 (R240). -/
  | configInvalid
  /-- Code 7: a state or operand the pseudocode excludes (R214). -/
  | invariant (why : InvariantBreach)
  deriving DecidableEq, Repr

end Sys2Proof
end

