-- ==== Sys2Proof/Config.lean ====
section
/-! DEFINITION. Config.lean: the implementation parameters of 00_scope.md R7, as data, and the model's opaque
constants. No step writes any of them (R104, R249). -/

namespace Sys2Proof

/-- A colour value: three bytes in transmission order (41_colour_model.md R120). -/
structure Colour where
  byte0 : Byte
  byte1 : Byte
  byte2 : Byte
  deriving DecidableEq, Repr, Inhabited

/-- Palette entry 0, (0x00, 0x00, 0x00) (R125). -/
def Colour.off : Colour := ⟨0, 0, 0⟩

/-- P_CHANNEL_ORDER: which colour channel each byte holds (R123). -/
inductive ChannelOrder where
  | grb
  | rgb
  deriving DecidableEq, Repr

/-- The five tick counts, the block's read-only timing table (10_state.md R35). -/
structure TickTable where
  t0h : Nat
  t1h : Nat
  t0l : Nat
  t1l : Nat
  tres : Nat
  deriving DecidableEq, Repr, Inhabited

/-- The five nanosecond durations and the clock rate the tick counts are computed from (R7, R102). -/
structure Datasheet where
  clockHz : Nat
  nsT0H : Nat
  nsT1H : Nat
  nsT0L : Nat
  nsT1L : Nat
  nsRes : Nat
  deriving DecidableEq, Repr, Inhabited

/-- R102: a model takes either the nanosecond values and the clock, or the five tick counts directly. -/
inductive TimingSource where
  | datasheet (d : Datasheet)
  | ticks (t : TickTable)
  deriving DecidableEq, Repr, Inhabited

/-- The OPEN parameters of R7. `pins` is P_PINS, a finite set of naturals below 2^32 (92_eei_decisions.md D30). -/
structure Config where
  /-- P_NUM_LEDS, N. -/
  numLeds : Nat
  /-- P_PALETTE_SIZE, M. -/
  paletteSize : Nat
  /-- P_PALETTE. -/
  palette : List Colour
  /-- The timing table, or what it is computed from. -/
  timing : TimingSource
  /-- P_PRESCALE: it affects nothing but P_CLOCK_HZ (R7, R33). -/
  prescale : Nat
  /-- P_TIMER_BITS. -/
  timerBits : Nat
  /-- P_PINS. -/
  pins : List Operand
  deriving DecidableEq, Repr, Inhabited

/-- The configuration the platform is built with: OPEN, so nothing is known of it (R7; notes/assumptions/1.md). -/
opaque Config.given : Config

/-- The operand field of an ARM trace word whose tick count does not fit 32 bits: R85 states none, so it is a FREE VALUE,
a function of the count (notes/assumptions/9.md). -/
opaque Config.wideTicksField : Nat → Operand

end Sys2Proof
end

