-- ==== Sys2Proof/Machine/TimingTable.lean ====
section
/-! DEFINITION. Machine/TimingTable.lean: ticksForPeriod, the five tick counts and the rise/fall lookup
(40_timing_table.md). All are pure functions (R100). -/

namespace Sys2Proof

/-- R101: `round(ns * f / 1e9)`, exact on naturals, a tie rounded up. -/
def ticksForPeriod (clockHz ns : Nat) : Nat :=
  (2 * ns * clockHz + 1000000000) / (2 * 1000000000)

/-- R102: the five counts from the datasheet durations. -/
def Datasheet.ticks (d : Datasheet) : TickTable where
  t0h := ticksForPeriod d.clockHz d.nsT0H
  t1h := ticksForPeriod d.clockHz d.nsT1H
  t0l := ticksForPeriod d.clockHz d.nsT0L
  t1l := ticksForPeriod d.clockHz d.nsT1L
  tres := ticksForPeriod d.clockHz d.nsRes

/-- The timing table of a configuration (R35, R102). -/
def Config.ticks (c : Config) : TickTable :=
  match c.timing with
  | .datasheet d => d.ticks
  | .ticks t => t

/-- The largest count the timer holds, 2^P_TIMER_BITS - 1 (R8, R188). -/
def Config.maxTicks (c : Config) : Nat := 2 ^ c.timerBits - 1

/-- R103: the high and the low duration of a bit. -/
def riseFallFor (c : Config) (bit : Bool) : Nat × Nat :=
  if bit then (c.ticks.t1h, c.ticks.t1l) else (c.ticks.t0h, c.ticks.t0l)

/-- R106: the duration of a bit pulse pair, riseTicks + fallTicks. -/
def bitTicks (c : Config) (bit : Bool) : Nat :=
  (riseFallFor c bit).1 + (riseFallFor c bit).2

end Sys2Proof
end

