-- ==== Sys2Proof/Machine/ConfigCheck.lean ====
section
/-! DEFINITION. Machine/ConfigCheck.lean: when a configuration is well-formed (00_scope.md R8), and the platform's own. -/

namespace Sys2Proof

/-- P_ADDR_BITS (R7, 92_eei_decisions.md D9). -/
def pAddrBits : Nat := 32

/-- P_INDEX_BITS (R7, 92_eei_decisions.md D8). -/
def pIndexBits : Nat := 8

/-- A tick count the timer can hold: 1..2^P_TIMER_BITS - 1 (R8). -/
def Config.admitsTicks (c : Config) (n : Nat) : Bool := decide (1 ≤ n ∧ n ≤ c.maxTicks)

/-- R8, condition by condition. Each entry has 3 bytes by its type. -/
def Config.wellFormed (c : Config) : Bool :=
  decide (1 ≤ c.paletteSize) &&
  decide (c.palette.length = c.paletteSize) &&
  decide (c.palette[0]? = some Colour.off) &&
  c.admitsTicks c.ticks.t0h && c.admitsTicks c.ticks.t1h &&
  c.admitsTicks c.ticks.t0l && c.admitsTicks c.ticks.t1l &&
  c.admitsTicks c.ticks.tres &&
  decide (c.ticks.t0h ≠ c.ticks.t1h) &&
  decide (c.numLeds ≤ 2 ^ pAddrBits) &&
  decide (c.paletteSize ≤ 2 ^ pIndexBits)

/-- A configuration that R8 admits. It stands in `Config.platform` only to make that one well-formed. -/
def Config.smallest : Config where
  numLeds := 0
  paletteSize := 1
  palette := [Colour.off]
  timing := .ticks ⟨1, 2, 1, 1, 1⟩
  prescale := 0
  timerBits := 2
  pins := []

/-- The configuration `State.reset` starts from: any well-formed one (R240, R256 `wf_config`; notes/assumptions/1.md). -/
def Config.platform : Config :=
  if Config.given.wellFormed then Config.given else Config.smallest

theorem Config.platform_wellFormed : Config.platform.wellFormed = true := by
  unfold Config.platform
  split
  · assumption
  · decide

end Sys2Proof
end

