-- ==== Sys2Proof/Machine/State.lean ====
section
/-! DEFINITION. Machine/State.lean: the block's state record S0 to S17 (10_state.md R21), its ports and its surroundings as
plain data, the reset state (R41), and the reasons a step stops (60_exceptions.md R211 to R214). -/

namespace Sys2Proof.Machine

/-- `resumeAction` (R27); its codes are `ResumeAction.code`. -/
inductive ResumeAction where
  | unset
  | continueBit
  | advanceLed
  deriving DecidableEq, Repr, Inhabited

/-- `pinMode` (R34). -/
inductive PinMode where
  | unconfigured
  | output
  deriving DecidableEq, Repr, Inhabited

/-- `pinLevel` (R34): what the block last drove on DOUT, UNDEF until INIT. -/
inductive PinLevel where
  | undef
  | low
  | high
  deriving DecidableEq, Repr, Inhabited

/-- The one-shot timer, S7 to S9 (R32). -/
structure Timer where
  armed : Bool
  count : Nat
  handler : Handler
  deriving DecidableEq, Repr, Inhabited

/-- One record `(t, w)` of the trace (30_encoding.md R85). -/
structure TraceRecord where
  time : Nat
  word : Word64
  deriving DecidableEq, Repr, Inhabited

/-- The faults of R212 with the information each records. Each stands for undefined behaviour of the source: safe. -/
inductive FaultReason where
  /-- Code 1, raised by WRITE before INIT (R147): safe. -/
  | notInitialised (addr : Operand)
  /-- Code 2, raised by ADVANCE_LED on a palette index not below M (R154): safe. -/
  | paletteIndex (led index : Nat)
  /-- Code 3, raised by INIT while a write operation is in flight (R144): safe. -/
  | initWhileLocked (pin : Operand)
  /-- Code 4, raised by BufRead on an address host memory does not admit (R51): safe. -/
  | bufferNotAdmitted (addr : Nat)
  deriving DecidableEq, Repr

/-- What `S.fault` holds: the reason with its info, and the time (R211). -/
structure FaultRecord where
  reason : FaultReason
  time : Nat
  deriving DecidableEq, Repr

/-- One thing the outside does to the block next, in the one total order of 20_memory.md R60. -/
inductive Input where
  /-- A 64-bit word on the CMD or the TICK port (R20, R71). -/
  | word (w : Word64)
  /-- A store of the host to its memory (R60, R62); the byte is admitted from then on. -/
  | store (addr : Operand) (value : Byte)
  /-- A byte of host memory stops being admitted (R244). -/
  | withdraw (addr : Operand)
  deriving DecidableEq, Repr

/-- The machine: S0 to S17 under the spec's names, then its ports and surroundings. -/
structure State where
  /-- S0. -/
  locked : Bool
  /-- S1. -/
  currentLED : Nat
  /-- S2. -/
  currentBit : Nat
  /-- S3. -/
  currentColour : Colour
  /-- S4. -/
  resumeAction : ResumeAction
  /-- S5: none is "no borrow". -/
  bufRef : Option Operand
  /-- S6. -/
  fallTicks : Nat
  /-- S7 to S9. -/
  timer : Timer
  /-- S10. -/
  initialised : Bool
  /-- S11: none is "unbound". -/
  pin : Option Operand
  /-- S12. -/
  pinMode : PinMode
  /-- S13, and the level on DOUT (R20). -/
  pinLevel : PinLevel
  /-- S14. -/
  now : Nat
  /-- S15. -/
  trace : List TraceRecord
  /-- S16, and the FAULT port (R20). -/
  fault : Option FaultRecord
  /-- S17. -/
  refused : Option RefusalCode
  /-- The configuration inputs, fixed before reset (R20, R35, R36): no step writes them. -/
  cfg : Config
  /-- Host memory (20_memory.md R50, R51): an address is admitted exactly when it is listed (notes/assumptions/10.md). -/
  mem : List Host.Cell
  /-- What the outside offers next (notes/assumptions/2.md). -/
  inputs : List Input
  /-- RDATA: what the last step put on it (R20, R79). -/
  rdata : Option Word64
  /-- The sequence of RDLOCK results, oldest first (70_reset_and_hazards.md R253). -/
  responses : List Word64
  deriving DecidableEq, Repr

/-- R41: the state after power-on reset with a configuration. -/
def State.resetWith (c : Config) : State where
  locked := false
  currentLED := 0
  currentBit := 0
  currentColour := Colour.off
  resumeAction := .unset
  bufRef := none
  fallTicks := 0
  timer := ⟨false, 0, .noHandler⟩
  initialised := false
  pin := none
  pinMode := .unconfigured
  pinLevel := .undef
  now := 0
  trace := []
  fault := none
  refused := none
  cfg := c
  mem := []
  inputs := []
  rdata := none
  responses := []

/-- The machine right after reset, with the platform's well-formed configuration (R240, R41). -/
def State.reset : State := State.resetWith Config.platform

/-- How a step ends in a fault (R12, R211). -/
inductive Fault where
  /-- Raised by the operation that meets the cause. `final` is the state the fault leaves: the writes made before it, and
  `S.fault` set (R211). Safe. -/
  | raised (reason : FaultReason) (final : State)
  /-- Raised by `step` in a state whose `S.fault` is set: no step is enabled there (R211). Safe. -/
  | noStep (held : FaultRecord)
  deriving DecidableEq, Repr

/-- How a step ends in a refusal (R12, R213). -/
inductive Refusal where
  /-- An instruction with no meaning yet, by its mnemonic; no arm of `exec` answers with it. Safe. -/
  | notModelled (mnemonic : String)
  /-- Raised by decode, INIT, power-on or a check of the pseudocode's premises (R214). `final` is the state the refusal
  leaves, `S.refused` set (R213). Safe. -/
  | raised (code : RefusalCode) (final : State)
  /-- Raised by `step` in a state whose `S.refused` is set: no step is enabled there (R213). Safe. -/
  | noStep (held : RefusalCode)
  deriving DecidableEq, Repr

/-- The three outcomes of a step (00_scope.md R12). -/
abbrev Result := Host.Outcome State Fault Refusal

end Sys2Proof.Machine
end

