-- ==== Sys2Proof/Machine/Flags.lean ====
section
/-! DEFINITION. Machine/Flags.lean: the block's one status flag, `locked` (10_state.md R40), and its response word. -/

namespace Sys2Proof.Machine

/-- Set by an accepted WRITE (R148). -/
def State.lock (s : State) : State := { s with locked := true }

/-- Cleared by GAPDONE (R160). -/
def State.unlock (s : State) : State := { s with locked := false }

/-- RDLOCK's response: bit 0 is 1 while busy, bits [63:1] are 0 (30_encoding.md R79). -/
def lockedWord (s : State) : Word64 := zext64 s.locked

end Sys2Proof.Machine
end

