-- ==== Sys2Proof/WellFormed.lean ====
section
/-! DEFINITION. WellFormed.lean: which operands an operation may have (30_encoding.md R73, R85; 43_signal_driver.md R188),
and which operations are steps (R72). -/

namespace Sys2Proof

/-- INIT names a pin of the platform; ARM names one of the three handlers and a count the timer holds. Every other
operation takes any operand its field holds. -/
def Instr.wellFormed (c : Config) : Instr → Bool
  | .init pin => c.pins.contains pin
  | .write _ => true
  | .rdlock => true
  | .tick => true
  | .advanceLed => true
  | .encodeBit => true
  | .beginPulse => true
  | .enterGap => true
  | .fall => true
  | .resume => true
  | .gapDone => true
  | .arm handler ticks => decide (handler ≠ .noHandler) && c.admitsTicks ticks.toNat
  | .setPin _ => true

/-- The steps the block is offered: the host commands and the clock event (R12, R72). -/
def Instr.isStep : Instr → Bool
  | .init _ => true
  | .write _ => true
  | .rdlock => true
  | .tick => true
  | .advanceLed => false
  | .encodeBit => false
  | .beginPulse => false
  | .enterGap => false
  | .fall => false
  | .resume => false
  | .gapDone => false
  | .arm _ _ => false
  | .setPin _ => false

end Sys2Proof
end

