-- ==== Sys2Proof/Decode.lean ====
section
/-! DEFINITION. Decode.lean: the decoders of the 64-bit word and its encoder (30_encoding.md R71 to R78, R85). -/

namespace Sys2Proof

/-- OPC, bits [63:56] (R71). -/
def opcField (w : Word64) : BitVec 8 := w.extractLsb' 56 8

/-- RSV, bits [55:32] (R71). -/
def rsvField (w : Word64) : BitVec 24 := w.extractLsb' 32 24

/-- OPND, bits [31:0] (R71). -/
def opndField (w : Word64) : Operand := w.extractLsb' 0 32

/-- What a word decodes to: an operation, or exactly one refusal (R74). -/
inductive Decoded where
  | instr (i : Instr)
  | reject (code : RefusalCode)
  deriving DecidableEq, Repr

/-- The code of a level in SETPIN's word (R85). -/
def Level.code : Level → BitVec 1
  | .low => 0
  | .high => 1

/-- The level a SETPIN word's bit 0 names (R85). -/
def Level.ofCode (b : BitVec 1) : Level := if b = 1 then .high else .low

/-- The handler's code (R32, R85). -/
def Handler.code : Handler → BitVec 2
  | .noHandler => 0
  | .fall => 1
  | .resume => 2
  | .gapDone => 3

/-- The handler a code names (R32). -/
def Handler.ofCode (b : BitVec 2) : Handler :=
  if b = 1 then .fall else if b = 2 then .resume else if b = 3 then .gapDone else .noHandler

/-- R74: the verdict on a word offered as a step, the checks in the spec's order. -/
def decode (c : Config) (w : Word64) : Decoded :=
  let opc := (opcField w).toNat
  if 0x10 ≤ opc ∧ opc ≤ 0x18 then .reject .internalOpcode
  else if ¬ (opc = 0x01 ∨ opc = 0x02 ∨ opc = 0x03 ∨ opc = 0x04) then .reject .reservedOpcode
  else if rsvField w ≠ 0 then .reject .reservedBits
  else if (opc = 0x03 ∨ opc = 0x04) ∧ opndField w ≠ 0 then .reject .reservedBits
  else if opc = 0x01 ∧ ¬ c.pins.contains (opndField w) then .reject .pinNotInPlatform
  else if opc = 0x01 then .instr (.init (opndField w))
  else if opc = 0x02 then .instr (.write (opndField w))
  else if opc = 0x03 then .instr .rdlock
  else .instr .tick

/-- An operation whose RSV bits must be 0 (R71). -/
def needRsvZero (w : Word64) (i : Instr) : Decoded :=
  if rsvField w ≠ 0 then .reject .reservedBits else .instr i

/-- An operation whose RSV and OPND bits must be 0 (R71). -/
def needAllZero (w : Word64) (i : Instr) : Decoded :=
  if rsvField w ≠ 0 ∨ opndField w ≠ 0 then .reject .reservedBits else .instr i

/-- ARM's trace word: RSV[55:34] must be 0, the handler's code is in [33:32], the count in OPND (R85). -/
def decodeArm (w : Word64) : Decoded :=
  if w.extractLsb' 34 22 ≠ 0 then .reject .reservedBits
  else .instr (.arm (Handler.ofCode (w.extractLsb' 32 2)) (opndField w))

/-- SETPIN's trace word: every bit but [0], the level, must be 0 (R85). -/
def decodeSetPin (w : Word64) : Decoded :=
  if w.extractLsb' 1 55 ≠ 0 then .reject .reservedBits
  else .instr (.setPin (Level.ofCode (w.extractLsb' 0 1)))

/-- The operation a word NAMES, by the 13 rows of spec/opcode_table.json: a step word or a trace word (R72, R85). An
internal operation's word is none of a step's, see `decode`. The rows 0x10 to 0x16 fix no bit but OPC
(notes/assumptions/6.md). -/
def decodeOperation (w : Word64) : Decoded :=
  let opc := (opcField w).toNat
  if opc = 0x01 then needRsvZero w (.init (opndField w))
  else if opc = 0x02 then needRsvZero w (.write (opndField w))
  else if opc = 0x03 then needAllZero w .rdlock
  else if opc = 0x04 then needAllZero w .tick
  else if opc = 0x10 then .instr .advanceLed
  else if opc = 0x11 then .instr .encodeBit
  else if opc = 0x12 then .instr .beginPulse
  else if opc = 0x13 then .instr .enterGap
  else if opc = 0x14 then .instr .fall
  else if opc = 0x15 then .instr .resume
  else if opc = 0x16 then .instr .gapDone
  else if opc = 0x17 then decodeArm w
  else if opc = 0x18 then decodeSetPin w
  else .reject .reservedOpcode

/-- The three fields of a word put together (R71). -/
def wordOf (opc : BitVec 8) (rsv : BitVec 24) (opnd : Operand) : Word64 := (opc ++ rsv) ++ opnd

/-- The word of an operation: the step words of R86, the trace words of R85, and for the other internal operations the
opcode of R72 with every other bit 0. -/
def encode : Instr → Word64
  | .init pin => wordOf 0x01 0 pin
  | .write addr => wordOf 0x02 0 addr
  | .rdlock => wordOf 0x03 0 0
  | .tick => wordOf 0x04 0 0
  | .advanceLed => wordOf 0x10 0 0
  | .encodeBit => wordOf 0x11 0 0
  | .beginPulse => wordOf 0x12 0 0
  | .enterGap => wordOf 0x13 0 0
  | .fall => wordOf 0x14 0 0
  | .resume => wordOf 0x15 0 0
  | .gapDone => wordOf 0x16 0 0
  | .arm handler ticks => wordOf 0x17 (handler.code.setWidth 24) ticks
  | .setPin level => wordOf 0x18 0 (level.code.setWidth 32)

/-- The operation a decoder's answer holds. -/
def Decoded.instr? : Decoded → Option Instr
  | .instr i => some i
  | .reject _ => none

/-- The host's reading of one opcode-table row: the `nbits` low bits of `w` as the one 64-bit word, all bits above 0. -/
def decodeTableWord (nbits w : Nat) : Option Instr :=
  (decodeOperation (BitVec.ofNat 64 (w % 2 ^ nbits))).instr?

end Sys2Proof
end

