-- ==== Sys2Proof/Machine/ColourModel.lean ====
section
/-! DEFINITION. Machine/ColourModel.lean: the colour value's bit accessor and the channel order (41_colour_model.md). -/

namespace Sys2Proof

/-- `colour.byte[j]`, j in 0..2 (R10, R120). -/
def Colour.byte? (c : Colour) (j : Nat) : Option Byte :=
  match j with
  | 0 => some c.byte0
  | 1 => some c.byte1
  | 2 => some c.byte2
  | _ => none

/-- R121: byte index `i / 8`, bit within the byte `i % 8`. There is no byte 3, so an index of 24 or more has no answer. -/
def isBitSet (c : Colour) (i : Nat) : Option Bool :=
  (c.byte? (i / 8)).map fun (b : Byte) => decide ((b >>> (i % 8)) &&& 1#8 = 1#8)

/-- P_CHANNEL_ORDER (R7, R123). -/
def pChannelOrder : ChannelOrder := .grb

/-- A colour from its channel values (R123, R124). -/
def Colour.ofChannels (order : ChannelOrder) (g r b : Byte) : Colour :=
  match order with
  | .grb => ⟨g, r, b⟩
  | .rgb => ⟨r, g, b⟩

end Sys2Proof
end

