-- ==== Sys2Proof/Machine/Memory.lean ====
section
/-! DEFINITION. Machine/Memory.lean: host memory as a list of (address, byte) pairs in one canonical form: addresses
strictly rising and below 2^P_ADDR_BITS. An unlisted address reads as nothing: it is not admitted (20_memory.md R51). -/

namespace Sys2Proof.Machine

/-- The byte at an address, none where the address is not admitted. -/
def Memory.read : List Host.Cell → Nat → Option Byte
  | [], _ => none
  | (a, b) :: rest, x => if a = x then some b else Memory.read rest x

/-- The host's store of a byte: the address is admitted from then on. -/
def Memory.write : List Host.Cell → Nat → Byte → List Host.Cell
  | [], x, v => [(x, v)]
  | (a, b) :: rest, x, v =>
    if x < a then (x, v) :: (a, b) :: rest
    else if x = a then (x, v) :: rest
    else (a, b) :: Memory.write rest x v

/-- The address stops being admitted (R244). -/
def Memory.withdraw : List Host.Cell → Nat → List Host.Cell
  | [], _ => []
  | (a, b) :: rest, x => if a = x then rest else (a, b) :: Memory.withdraw rest x

/-- The addresses rise strictly from `low` on and lie below 2^P_ADDR_BITS. -/
def Memory.wfFrom : Nat → List Host.Cell → Bool
  | _, [] => true
  | low, (a, _) :: rest => decide (low ≤ a) && decide (a < 2 ^ pAddrBits) && Memory.wfFrom (a + 1) rest

/-- The canonical form of host memory. -/
def Memory.wf (m : List Host.Cell) : Bool := Memory.wfFrom 0 m

end Sys2Proof.Machine
end

