-- ==== Sys2Proof/Machine/Operands.lean ====
section
/-! DEFINITION. Machine/Operands.lean: where an operation's operands come from: the buffer, the palette, the colour's bit
and the timing table (20_memory.md R51 to R53; 40_timing_table.md R103; 41_colour_model.md R121). -/

namespace Sys2Proof.Machine

/-- R51: `MemRead(addr, 1)`; none where it faults. -/
def memRead (s : State) (addr : Nat) : Option Byte :=
  if addr < 2 ^ pAddrBits then Memory.read s.mem addr else none

/-- R52: the address of buffer element k, computed without wrap. -/
def bufAddr (base : Operand) (k : Nat) : Nat := base.toNat + k

/-- R53: `PaletteRead(k)`, k below M. -/
def paletteRead (s : State) (k : Nat) : Option Colour := s.cfg.palette[k]?

/-- The rise and fall of stream bit i of the current colour (R103 of R121's answer). -/
def bitPulse (s : State) (i : Nat) : Option (Nat × Nat) :=
  (isBitSet s.currentColour i).map (riseFallFor s.cfg)

/-- The operands of BEGIN_PULSE read from the state: the rise and fall of the bit whose pulse is on the line, which is
stream bit `currentBit - 1` (R25, R38 I9). DEDUCED, see notes/assumptions/5.md. -/
def pulseOperands (s : State) : Option (Nat × Nat) :=
  if s.currentBit = 0 then none else bitPulse s (s.currentBit - 1)

/-- `zext_32(n)` of ARM's trace word (R85); a free value where n does not fit (notes/assumptions/9.md). -/
def ticksField (n : Nat) : Operand :=
  if n < 2 ^ 32 then BitVec.ofNat 32 n else Config.wideTicksField n

/-- R151: the action chosen before the pulse of bit `i` begins. -/
def resumeAfter (i : Nat) : ResumeAction :=
  if i + 1 < 24 then .continueBit else .advanceLed

end Sys2Proof.Machine
end

