-- ==== Sys2Proof/Machine/Ops.lean ====
section
/-! DEFINITION. Machine/Ops.lean: the named updates of the state, raising a fault and refusing (60_exceptions.md R211, R213),
and the two collaborator primitives SETPIN and ARM with the pulse they make (43_signal_driver.md R181, R186, R188). -/

namespace Sys2Proof.Machine

/-- The fault's code (R212). -/
def faultCode : FaultReason → Nat
  | .notInitialised _ => 1
  | .paletteIndex _ _ => 2
  | .initWhileLocked _ => 3
  | .bufferNotAdmitted _ => 4

/-- The refusal's code (R214). -/
def refusalCode : RefusalCode → Nat
  | .reservedOpcode => 1
  | .reservedBits => 2
  | .internalOpcode => 3
  | .pinNotInPlatform => 4
  | .reinitOtherPin => 5
  | .configInvalid => 6
  | .invariant _ => 7

/-- The code of a resume action (R27): ContinueBit = 0, AdvanceLED = 1; the spec gives UNSET none. -/
def ResumeAction.code : ResumeAction → Option (BitVec 2)
  | .unset => none
  | .continueBit => some 0
  | .advanceLed => some 1

/-- One operation after another: a fault or a refusal ends the step where it is met (R211, R213). -/
def andThen (r : Result) (k : State → Result) : Result :=
  match r with
  | .next s => k s
  | .fault f => .fault f
  | .refused f => .refused f

/-- R211: `raise Fault(reason, info)`: the writes made so far stand, and the fault is recorded with the time. -/
def raise (reason : FaultReason) (s : State) : Result :=
  .fault (.raised reason { s with fault := some ⟨reason, s.now⟩ })

/-- R213: `refuse(reason)`: nothing more is written, and the reason is recorded. -/
def refuse (code : RefusalCode) (s : State) : Result :=
  .refused (.raised code { s with refused := some code })

/-- The level a SETPIN leaves on the line. -/
def lineLevel : Level → PinLevel
  | .low => .low
  | .high => .high

/-- INIT's binding of the pin and `setOutputMode(pin)` (R142). -/
def State.bindPin (pin : Operand) (s : State) : State :=
  { s with pin := some pin, pinMode := .output }

/-- INIT's last write (R142). -/
def State.markInitialised (s : State) : State := { s with initialised := true }

/-- WRITE's capture of the buffer and its reset of both indices (R148). -/
def State.beginFrame (addr : Operand) (s : State) : State :=
  { s with bufRef := some addr, currentLED := 0, currentBit := 0 }

/-- GAPDONE's end of the borrow and its reset of both indices (R160). -/
def State.endFrame (s : State) : State :=
  { s with bufRef := none, currentLED := 0, currentBit := 0 }

/-- ADVANCE_LED's copy of the colour and its step to the next LED (R153). -/
def State.loadLed (colour : Colour) (s : State) : State :=
  { s with currentColour := colour, currentLED := s.currentLED + 1, currentBit := 0 }

/-- ENCODE_BIT's choice of the resume action and its step to the next bit (R151). -/
def State.takeBit (s : State) : State :=
  { s with resumeAction := resumeAfter s.currentBit, currentBit := s.currentBit + 1 }

/-- BEGIN_PULSE keeps the low duration for the fall phase (R181, R29). -/
def State.keepFall (f : Nat) (s : State) : State := { s with fallTicks := f }

/-- RDLOCK's response on RDATA, remembered among the results (R150, R253). -/
def State.respond (w : Word64) (s : State) : State :=
  { s with rdata := some w, responses := s.responses ++ [w] }

/-- TICK's advance of the time (R190). -/
def State.advanceTime (s : State) : State := { s with now := s.now + 1 }

/-- TICK's decrement of the count (R190). -/
def State.countDown (s : State) : State :=
  { s with timer := { s.timer with count := s.timer.count - 1 } }

/-- TICK's clearing of the timer before the handler runs (R190, R217). -/
def State.clearTimer (s : State) : State :=
  { s with timer := { s.timer with armed := false, handler := .noHandler } }

/-- R186: SETPIN records the event and drives the line, whether or not the level changes. -/
def State.setPin (level : Level) (s : State) : State :=
  { s with
    trace := s.trace ++ [⟨s.now, encode (.setPin level)⟩]
    pinLevel := lineLevel level }

/-- What a successful ARM writes (R188). -/
def State.startTimer (n : Nat) (h : Handler) (s : State) : State :=
  { s with
    timer := ⟨true, n, h⟩
    trace := s.trace ++ [⟨s.now, encode (.arm h (ticksField n))⟩] }

/-- R188: ARM. The timer has one pending callback (R189), the count and the handler lie in the operands' ranges. -/
def arm (n : Nat) (h : Handler) (s : State) : Result :=
  if s.timer.armed then refuse (.invariant .armWhileArmed) s
  else if s.cfg.admitsTicks n = false then refuse (.invariant .armTicks) s
  else if h = .noHandler then refuse (.invariant .armHandler) s
  else .next (s.startTimer n h)

/-- R181: BEGIN_PULSE(r, f). -/
def beginPulse (r f : Nat) (s : State) : Result :=
  arm r .fall ((s.setPin .high).keepFall f)

end Sys2Proof.Machine
end

