-- ==== Sys2Proof/Machine/Driver.lean ====
section
/-! DEFINITION. Machine/Driver.lean: the meanings of the Signal Driver's operations (43_signal_driver.md). -/

namespace Sys2Proof.Machine

/-- SETPIN (R186): never stops. -/
def execSetPin (level : Level) (s : State) : Result := .next (s.setPin level)

/-- ARM (R188). -/
def execArm (handler : Handler) (ticks : Operand) (s : State) : Result := arm ticks.toNat handler s

/-- BEGIN_PULSE (R181) of the bit the state holds: its word carries no operand (notes/assumptions/5.md). -/
def execBeginPulse (s : State) : Result :=
  match pulseOperands s with
  | none => refuse (.invariant .bitIndex) s
  | some (r, f) => beginPulse r f s

/-- FALL (R182): the high phase has expired. -/
def execFall (s : State) : Result := arm s.fallTicks .resume (s.setPin .low)

end Sys2Proof.Machine
end

