-- ==== Sys2Proof/Machine/Writer.lean ====
section
/-! DEFINITION. Machine/Writer.lean: the meanings of the Writer State Machine's operations (42_writer_state_machine.md). -/

namespace Sys2Proof.Machine

/-- ENCODE_BIT (R151, R152): the resume action and the bit index are written before the pulse begins. -/
def execEncodeBit (s : State) : Result :=
  match bitPulse s s.currentBit with
  | none => refuse (.invariant .bitIndex) s
  | some (r, f) => beginPulse r f s.takeBit

/-- ENTER_GAP (R155). -/
def execEnterGap (s : State) : Result := arm s.cfg.ticks.tres .gapDone (s.setPin .low)

/-- ADVANCE_LED's first branch once the palette index is read (R153, R154). -/
def loadIndex (k : Byte) (s : State) : Result :=
  if s.cfg.paletteSize ≤ k.toNat then raise (.paletteIndex s.currentLED k.toNat) s
  else
    match paletteRead s k.toNat with
    | none => refuse (.invariant .paletteHole) s
    | some colour => execEncodeBit (s.loadLed colour)

/-- ADVANCE_LED (R153): the next LED, or the reset gap once all are sent. -/
def execAdvanceLed (s : State) : Result :=
  if s.currentLED < s.cfg.numLeds then
    match s.bufRef with
    | none => refuse (.invariant .noBorrow) s
    | some base =>
      match memRead s (bufAddr base s.currentLED) with
      | none => raise (.bufferNotAdmitted (bufAddr base s.currentLED)) s
      | some k => loadIndex k s
  else execEnterGap s

/-- RESUME (R156): the low phase has expired. -/
def execResume (s : State) : Result :=
  match s.resumeAction with
  | .continueBit => execEncodeBit s
  | .advanceLed => execAdvanceLed s
  | .unset => refuse (.invariant .resumeUnset) s

/-- GAPDONE (R160): the reset gap has expired. -/
def execGapDone (s : State) : Result := .next s.unlock.endFrame

/-- INIT (R142 to R144). The prescale is configuration, not state (R33). -/
def execInit (pin : Operand) (s : State) : Result :=
  if s.locked then raise (.initWhileLocked pin) s
  else if s.initialised = true ∧ s.pin ≠ some pin then refuse .reinitOtherPin s
  else .next ((s.bindPin pin).setPin .low).markInitialised

/-- WRITE (R145 to R149): not initialised faults, busy is dropped, otherwise the frame begins. -/
def execWrite (addr : Operand) (s : State) : Result :=
  if s.initialised = false then raise (.notInitialised addr) s
  else if s.locked then .next s
  else execAdvanceLed (s.lock.beginFrame addr)

/-- RDLOCK (R150). -/
def execRdlock (s : State) : Result := .next (s.respond (lockedWord s))

end Sys2Proof.Machine
end

