-- ==== Sys2Proof/Machine/Clock.lean ====
section
/-! DEFINITION. Machine/Clock.lean: the clock step TICK, and the timer interrupt it takes (43_signal_driver.md R190 to R192;
60_exceptions.md R217 to R220). -/

namespace Sys2Proof.Machine

/-- R219: control goes to the handler the timer named. -/
def runHandler (h : Handler) (s : State) : Result :=
  match h with
  | .fall => execFall s
  | .resume => execResume s
  | .gapDone => execGapDone s
  | .noHandler => refuse (.invariant .expiryUnnamed) s

/-- R190 once the time has advanced and the timer is armed: count down, and at 0 clear the timer and run its handler. -/
def countStep (s : State) : Result :=
  if s.timer.count = 0 then refuse (.invariant .countZero) s
  else if s.timer.count = 1 then runHandler s.timer.handler s.countDown.clearTimer
  else .next s.countDown

/-- TICK (R190). -/
def execTick (s : State) : Result :=
  if s.timer.armed then countStep s.advanceTime else .next s.advanceTime

end Sys2Proof.Machine
end

