-- ==== Sys2Proof/Machine/Dispatch.lean ====
section
/-! DEFINITION. Machine/Dispatch.lean: every operation's meaning, one arm per constructor of Instr. An internal operation's
meaning is what it does inside the step that calls it (00_scope.md R12); `step` refuses its word (30_encoding.md R76). -/

namespace Sys2Proof.Machine

def exec (i : Instr) (s : State) : Host.Outcome State Fault Refusal :=
  match i with
  | .init pin => Sys2Proof.Machine.execInit pin s
  | .write addr => Sys2Proof.Machine.execWrite addr s
  | .rdlock => Sys2Proof.Machine.execRdlock s
  | .tick => Sys2Proof.Machine.execTick s
  | .advanceLed => Sys2Proof.Machine.execAdvanceLed s
  | .encodeBit => Sys2Proof.Machine.execEncodeBit s
  | .beginPulse => Sys2Proof.Machine.execBeginPulse s
  | .enterGap => Sys2Proof.Machine.execEnterGap s
  | .fall => Sys2Proof.Machine.execFall s
  | .resume => Sys2Proof.Machine.execResume s
  | .gapDone => Sys2Proof.Machine.execGapDone s
  | .arm handler ticks => Sys2Proof.Machine.execArm handler ticks s
  | .setPin level => Sys2Proof.Machine.execSetPin level s

end Sys2Proof.Machine
end

