-- ==== Sys2Proof/Machine/Ports.lean ====
section
/-! DEFINITION. Machine/Ports.lean: what one step does with what the outside offers: a word on the CMD or TICK port, a store
of the host, or nothing but the clock (00_scope.md R12; 30_encoding.md R74; 20_memory.md R60; 70_reset_and_hazards.md R253). -/

namespace Sys2Proof.Machine

/-- A block's step begins: RDATA carries only what this step puts on it (R79). -/
def State.quiet (s : State) : State := { s with rdata := none }

/-- The offered input is taken; `rest` is offered next. -/
def State.takeInput (rest : List Input) (s : State) : State := { s with inputs := rest }

/-- The host stores a byte (R60, R62). -/
def State.hostStore (addr : Operand) (value : Byte) (s : State) : State :=
  { s with mem := Memory.write s.mem addr.toNat value }

/-- The host stops admitting a byte (R244). -/
def State.hostWithdraw (addr : Operand) (s : State) : State :=
  { s with mem := Memory.withdraw s.mem addr.toNat }

/-- R74: the word is decoded; a refused word refuses the step, a step word runs. -/
def offerWord (w : Word64) (s : State) : Result :=
  match decode s.cfg w with
  | .reject code => refuse code s
  | .instr i => exec i s

/-- One input of the total order. A store or a withdrawal is the host's step; it changes host memory alone. -/
def offerInput (i : Input) (s : State) : Result :=
  match i with
  | .word w => offerWord w s.quiet
  | .store addr value => .next (s.hostStore addr value)
  | .withdraw addr => .next (s.hostWithdraw addr)

/-- With nothing offered the clock strobes the TICK port: strobes keep coming (R253; notes/assumptions/2.md). -/
def enabledStep (s : State) : Result :=
  match s.inputs with
  | [] => exec .tick s.quiet
  | i :: rest => offerInput i (s.takeInput rest)

/-- R211, R213: a faulted or a refused state has no step. -/
def blockStep (s : State) : Result :=
  match s.fault with
  | some held => .fault (.noStep held)
  | none =>
    match s.refused with
    | some held => .refused (.noStep held)
    | none => enabledStep s

/-- R240: power-on reset checks the configuration, then puts every field at R41's value. What the fields hold after a refused
power-on the spec leaves open: that they hold R41's values, with `refused` set, is a DESIGN CHOICE
(notes/assumptions/36.md). -/
def powerOn (c : Config) : Result :=
  if c.wellFormed then .next (State.resetWith c) else refuse .configInvalid (State.resetWith c)

/-- The word a host's `nbits` low bits of `w` make, every bit above 0 (R71). -/
def wordOfBits (nbits w : Nat) : Word64 := BitVec.ofNat 64 (w % 2 ^ nbits)

end Sys2Proof.Machine
end

