-- ==== Sys2Proof/Machine/Step.lean ====
section
/-! DEFINITION. Machine/Step.lean: one step of the block (00_scope.md R12), and how a word is offered to it. -/

namespace Sys2Proof.Machine

/-- One step. -/
def step (s : State) : Host.Outcome State Fault Refusal := blockStep s

/-- The word is offered next: the block fetches nothing, so its next step takes the first input
(notes/assumptions/3.md). -/
def State.withFetchWord (s : State) (nbits w : Nat) : State :=
  { s with inputs := .word (wordOfBits nbits w) :: s.inputs }

end Sys2Proof.Machine
end

