-- ==== Sys2Proof/Machine/Assembler.lean ====
section
/-! DEFINITION. Machine/Assembler.lean: the textual form of the steps and the pseudo-instructions (30_encoding.md R86, R87),
and what a host does with them. -/

namespace Sys2Proof.Machine

/-- A line of a program: the four steps, `tick <n>` and the two polling pseudo-instructions. -/
inductive AsmLine where
  | init (pin : Operand)
  | write (addr : Operand)
  | rdlock
  /-- `tick` is `tick 1`. -/
  | tick (n : Nat)
  | waitReady
  | send (addr : Operand)
  deriving DecidableEq, Repr

/-- The value of a digit in base 16. -/
def digitValue (ch : Char) : Option Nat :=
  if '0' ≤ ch ∧ ch ≤ '9' then some (ch.toNat - '0'.toNat)
  else if 'a' ≤ ch ∧ ch ≤ 'f' then some (ch.toNat - 'a'.toNat + 10)
  else if 'A' ≤ ch ∧ ch ≤ 'F' then some (ch.toNat - 'A'.toNat + 10)
  else none

/-- The value of digits in a base, `acc` standing before them. -/
def digitsValue (base : Nat) : Nat → List Char → Option Nat
  | acc, [] => some acc
  | acc, ch :: rest =>
    match digitValue ch with
    | some d => if d < base then digitsValue base (acc * base + d) rest else none
    | none => none

/-- A number, decimal or `0x` hexadecimal (R86). -/
def parseNumber : List Char → Option Nat
  | [] => none
  | '0' :: 'x' :: [] => none
  | '0' :: 'x' :: digits => digitsValue 16 0 digits
  | digits => digitsValue 10 0 digits

/-- A number of 32 bits: a pin or an address (R86); a wider one is refused (notes/assumptions/29.md). -/
def parseOperand (cs : List Char) : Option Operand :=
  match parseNumber cs with
  | some n => if n < 2 ^ 32 then some (BitVec.ofNat 32 n) else none
  | none => none

/-- What stands before the comment (R86). -/
def withoutComment : List Char → List Char
  | [] => []
  | ch :: rest => if ch = ';' then [] else ch :: withoutComment rest

/-- The words of a line, `word` being the one under way. -/
def splitWords : List Char → List Char → List (List Char)
  | word, [] => if word = [] then [] else [word]
  | word, ch :: rest =>
    if ch = ' ' ∨ ch = '\t' then
      (if word = [] then splitWords [] rest else word :: splitWords [] rest)
    else splitWords (word ++ [ch]) rest

/-- R86, R87: one line of text. A line of nothing but spaces and a comment is `some none`; a line that is no step and no
pseudo-instruction is none. -/
def parseLine (text : List Char) : Option (Option AsmLine) :=
  match splitWords [] (withoutComment text) with
  | [] => some none
  | [name] =>
    if name = ['r', 'd', 'l', 'o', 'c', 'k'] then some (some .rdlock)
    else if name = ['t', 'i', 'c', 'k'] then some (some (.tick 1))
    else if name = ['w', 'a', 'i', 't', 'r', 'e', 'a', 'd', 'y'] then some (some .waitReady)
    else none
  | [name, arg] =>
    if name = ['i', 'n', 'i', 't'] then (parseOperand arg).map fun a => some (.init a)
    else if name = ['w', 'r', 'i', 't', 'e'] then (parseOperand arg).map fun a => some (.write a)
    else if name = ['t', 'i', 'c', 'k'] then (parseNumber arg).map fun n => some (.tick n)
    else if name = ['s', 'e', 'n', 'd'] then (parseOperand arg).map fun a => some (.send a)
    else none
  | _ => none

/-- The words a line expands to where the expansion is fixed (R86, R87); the polling loops have none. -/
def AsmLine.words : AsmLine → Option (List Word64)
  | .init pin => some [encode (.init pin)]
  | .write addr => some [encode (.write addr)]
  | .rdlock => some [encode .rdlock]
  | .tick n => some (List.replicate n (encode .tick))
  | .waitReady => none
  | .send _ => none

/-- The host offers one word and the block takes its step. -/
def give (w : Word64) (s : State) : Result := step (s.withFetchWord 64 w.toNat)

/-- The host offers words one after the other. -/
def giveAll : List Word64 → State → Result
  | [], s => .next s
  | w :: rest, s => andThen (give w s) (giveAll rest)

/-- Whether the last response says busy: `RDATA[0] = 1` (R79, R87). -/
def busyAnswer (s : State) : Bool :=
  match s.rdata with
  | some w => w.getLsbD 0
  | none => false

/-- How far the host has come with a line or a program. -/
inductive Progress where
  /-- Done, and the block is in this state. -/
  | next (s : State)
  /-- Still in a polling loop of R87, which the model has followed for its allowance of polls (notes/assumptions/33.md). -/
  | polling (s : State)
  /-- A step of it faulted. -/
  | fault (f : Fault)
  /-- A step of it was refused. -/
  | refused (f : Refusal)
  deriving DecidableEq, Repr

/-- The progress a single step makes. -/
def Progress.ofStep : Result → Progress
  | .next s => .next s
  | .fault f => .fault f
  | .refused f => .refused f

/-- What follows runs only when what stands before it is done. -/
def Progress.andThen (p : Progress) (k : State → Progress) : Progress :=
  match p with
  | .next s => k s
  | .polling s => .polling s
  | .fault f => .fault f
  | .refused f => .refused f

/-- R87 `waitready`: poll; while the answer is busy let the clock tick and poll again. The loop is done only when a poll
answers 0; after `fuel` polls it is followed no further, and is still polling. -/
def waitReady : Nat → State → Progress
  | 0, s => .polling s
  | fuel + 1, s =>
    (Progress.ofStep (give (encode .rdlock) s)).andThen fun t =>
      if busyAnswer t then (Progress.ofStep (give (encode .tick) t)).andThen (waitReady fuel) else .next t

/-- What the host does for a line; each polling loop is followed for `fuel` polls. `send` offers its WRITE only when
`waitready` is done (R86, R87; 70_reset_and_hazards.md R246). -/
def runLine (fuel : Nat) (line : AsmLine) (s : State) : Progress :=
  match line with
  | .init pin => .ofStep (give (encode (.init pin)) s)
  | .write addr => .ofStep (give (encode (.write addr)) s)
  | .rdlock => .ofStep (give (encode .rdlock) s)
  | .tick n => .ofStep (giveAll (List.replicate n (encode .tick)) s)
  | .waitReady => waitReady fuel s
  | .send addr => (waitReady fuel s).andThen fun t => .ofStep (give (encode (.write addr)) t)

/-- A program, line by line. -/
def runProgram (fuel : Nat) : List AsmLine → State → Progress
  | [], s => .next s
  | line :: rest, s => (runLine fuel line s).andThen (runProgram fuel rest)

end Sys2Proof.Machine
end

