-- ==== Sys2Proof/Machine/Observe.lean ====
section
/-! DEFINITION. Machine/Observe.lean: what can be read off a state and its trace: the control state (10_state.md R31), the
output ports (R20), the transitions and ARM records of a trace (43_signal_driver.md R187), and runs of the clock. -/

namespace Sys2Proof.Machine

/-- The source's three states, the first of them with its two phases (R31). -/
inductive Ctrl where
  | idle
  | encodingBitRise
  | encodingBitLow
  | gapReset
  deriving DecidableEq, Repr

/-- `ctrl(S)` (R31); none where R31 gives none, which no state between steps is (R38 I1). -/
def State.ctrl (s : State) : Option Ctrl :=
  if s.locked = false then some .idle
  else
    match s.timer.handler with
    | .fall => some .encodingBitRise
    | .resume => some .encodingBitLow
    | .gapDone => some .gapReset
    | .noHandler => none

/-- The level on DOUT (R20, R34). -/
def State.dout (s : State) : PinLevel := s.pinLevel

/-- The FAULT port (R20). -/
def State.faultPort (s : State) : Option FaultRecord := s.fault

/-- The address on BUF_ADDR when ADVANCE_LED reads the next element (R20, R52). What BUF_ADDR carries while no element is
being read the spec leaves open: that it is `bufRef + currentLED`, unwrapped, in every state with a borrow, and none without
one, is a DESIGN CHOICE (notes/assumptions/38.md). -/
def State.bufPort (s : State) : Option Nat := s.bufRef.map fun base => bufAddr base s.currentLED

/-- The event a trace record holds (R85). -/
def recordedOp (r : TraceRecord) : Option Instr := (decodeOperation r.word).instr?

/-- How many records of a trace are pin-level transitions, the line standing at `was` before it (R187). -/
def transitions : PinLevel → List TraceRecord → Nat
  | _, [] => 0
  | was, r :: rest =>
    match recordedOp r with
    | some (.setPin level) =>
      (if lineLevel level = was then 0 else 1) + transitions (lineLevel level) rest
    | _ => transitions was rest

/-- How many records of a trace are ARM records (R146, R187). -/
def rearmaments : List TraceRecord → Nat
  | [] => 0
  | r :: rest =>
    match recordedOp r with
    | some (.arm _ _) => 1 + rearmaments rest
    | _ => rearmaments rest

/-- `k` strobes of the clock with no host command between them (R190). -/
def runTicks : Nat → State → Result
  | 0, s => .next s
  | k + 1, s => andThen (exec .tick s) (runTicks k)

end Sys2Proof.Machine
end

