-- ==== Sys2Proof/Machine/Line.lean ====
section
/-! DEFINITION. Machine/Line.lean: the output encoding (30_encoding.md R80 to R82, R88) and the timing of a frame
(42_writer_state_machine.md R162; 70_reset_and_hazards.md R254), as functions of the colours sent. -/

namespace Sys2Proof.Machine

/-- The symbols of the line (R80). -/
inductive Symbol where
  | bit (b : Bool)
  | gap
  deriving DecidableEq, Repr

/-- A symbol's levels and their durations in ticks, the high phase first (R80). -/
def symbolPhases (c : Config) : Symbol → List (Level × Nat)
  | .bit b => [(.high, (riseFallFor c b).1), (.low, (riseFallFor c b).2)]
  | .gap => [(.low, c.ticks.tres)]

/-- The 24 stream bits of a colour, bit 0 first (R82, R122). -/
def colourBits (colour : Colour) : List Bool := (List.range 24).filterMap (isBitSet colour)

/-- The bits of a frame, LED-major and bit-minor (R81, R159). -/
def frameBits (colours : List Colour) : List Bool := colours.flatMap colourBits

/-- The symbols of a frame (R81). -/
def frameSymbols (colours : List Colour) : List Symbol :=
  (frameBits colours).map .bit ++ [.gap]

/-- The line of a frame, phase by phase (R80, R81). -/
def framePhases (c : Config) (colours : List Colour) : List (Level × Nat) :=
  (frameSymbols colours).flatMap (symbolPhases c)

/-- `pop(C)`: how many of the 24 bits are 1 (R162). -/
def pop (colour : Colour) : Nat := (colourBits colour).count true

/-- `D(L)` of an LED with this colour (R162, R254). -/
def ledTicks (c : Config) (colour : Colour) : Nat := ((colourBits colour).map (bitTicks c)).sum

/-- `tg - t0`: the ticks of a frame's bits (R162, R254). -/
def frameTicks (c : Config) (colours : List Colour) : Nat := (colours.map (ledTicks c)).sum

/-- The colour of LED k of the buffer at `base`, none where ADVANCE_LED faults (R59, R81, R153). -/
def ledColour (s : State) (base : Operand) (k : Nat) : Option Colour :=
  match memRead s (bufAddr base k) with
  | none => none
  | some index => if index.toNat < s.cfg.paletteSize then paletteRead s index.toNat else none

/-- The colours `C_0 ... C_{N-1}` of a frame of the buffer at `base` (R81). -/
def frameColours (s : State) (base : Operand) : List Colour :=
  (List.range s.cfg.numLeds).filterMap (ledColour s base)

/-- The records of one bit pulse pair that begins at `t` (R85, R181, R182). -/
def pulseTrace (c : Config) (t : Nat) (b : Bool) : List TraceRecord :=
  [⟨t, encode (.setPin .high)⟩,
   ⟨t, encode (.arm .fall (ticksField (riseFallFor c b).1))⟩,
   ⟨t + (riseFallFor c b).1, encode (.setPin .low)⟩,
   ⟨t + (riseFallFor c b).1, encode (.arm .resume (ticksField (riseFallFor c b).2))⟩]

/-- The records of ENTER_GAP at `t` (R85, R155). -/
def gapTrace (c : Config) (t : Nat) : List TraceRecord :=
  [⟨t, encode (.setPin .low)⟩, ⟨t, encode (.arm .gapDone (ticksField c.ticks.tres))⟩]

/-- The records of bits sent one after the other from `t` on, and of the gap after them (R81, R162). -/
def bitsTrace (c : Config) : Nat → List Bool → List TraceRecord
  | t, [] => gapTrace c t
  | t, b :: rest => pulseTrace c t b ++ bitsTrace c (t + bitTicks c b) rest

/-- The records of a whole frame that begins at `t` (R81). -/
def frameTrace (c : Config) (t : Nat) (colours : List Colour) : List TraceRecord :=
  bitsTrace c t (frameBits colours)

/-- The intervals of the line, level by level, read from a trace that is watched until `upto`; `run` is the level the line
stands at and since when, none before the first record. A SETPIN to the level the line has ends no interval (R187). The last
interval is still open: a low one is as long as it has been watched, a high one is not yet a bit (notes/assumptions/37.md). -/
def intervals (upto : Nat) : Option (Level × Nat) → List TraceRecord → List (Level × Nat)
  | some (.low, since), [] => [(.low, upto - since)]
  | _, [] => []
  | run, r :: rest =>
    match recordedOp r with
    | some (.setPin level) =>
      match run with
      | none => intervals upto (some (level, r.time)) rest
      | some (was, since) =>
        if was = level then intervals upto (some (was, since)) rest
        else (was, r.time - since) :: intervals upto (some (level, r.time)) rest
    | _ => intervals upto run rest

/-- R88: a high interval of T0H ticks is 0, one of T1H ticks is 1. -/
def bitOfHigh (c : Config) (n : Nat) : Option Bool :=
  if n = c.ticks.t0h then some false else if n = c.ticks.t1h then some true else none

/-- R88: what an interval says. A high one is a bit; a low one longer than max(T0L, T1L) marks the reset gap, a shorter one
says nothing. None where a high one has neither length. -/
def readInterval (c : Config) : Level × Nat → Option (List Symbol)
  | (.high, n) => (bitOfHigh c n).map fun b => [.bit b]
  | (.low, n) => some (if max c.ticks.t0l c.ticks.t1l < n then [.gap] else [])

/-- The symbols of a list of intervals, none where one of them is none (R88). -/
def readIntervals (c : Config) : List (Level × Nat) → Option (List Symbol)
  | [] => some []
  | i :: rest =>
    match readInterval c i, readIntervals c rest with
    | some ss, some more => some (ss ++ more)
    | _, _ => none

/-- The bits of each frame, a gap ending a frame; `bits` are those of the frame under way. A gap after no bit, on a line that
was idle, ends nothing. -/
def splitFrames : List Bool → List Symbol → List (List Bool)
  | bits, [] => if bits = [] then [] else [bits]
  | bits, .bit b :: rest => splitFrames (bits ++ [b]) rest
  | bits, .gap :: rest => if bits = [] then splitFrames [] rest else bits :: splitFrames [] rest

/-- The byte whose bits are these, least significant first (R82). -/
def byteOfBits : List Bool → Nat
  | [] => 0
  | b :: rest => b.toNat + 2 * byteOfBits rest

/-- The colour whose 24 stream bits are these (R82). -/
def colourOfBits (bs : List Bool) : Colour where
  byte0 := BitVec.ofNat 8 (byteOfBits (bs.take 8))
  byte1 := BitVec.ofNat 8 (byteOfBits ((bs.drop 8).take 8))
  byte2 := BitVec.ofNat 8 (byteOfBits ((bs.drop 16).take 8))

/-- The first `n` groups of 24 values, each one LED's colour (R88). -/
def coloursOfBits : Nat → List Bool → List Colour
  | 0, _ => []
  | n + 1, bs => colourOfBits (bs.take 24) :: coloursOfBits n (bs.drop 24)

/-- The colours of one frame's bits, group by group (R88). -/
def frameOfBits (bs : List Bool) : List Colour := coloursOfBits (bs.length / 24) bs

/-- R88: the line decoder: the colours of each frame that a trace, watched until `upto`, puts on the line. -/
def decodeLine (c : Config) (upto : Nat) (trace : List TraceRecord) : Option (List (List Colour)) :=
  (readIntervals c (intervals upto none trace)).map fun symbols => (splitFrames [] symbols).map frameOfBits

end Sys2Proof.Machine
end

