-- ==== Sys2Proof/Safety.lean ====
section
/-! DEFINITION. Safety.lean: what holds between steps (10_state.md R38), and when a run may end (70_reset_and_hazards.md
R253). -/

namespace Sys2Proof.Machine

/-- R38: the invariants I1 to I9, in a state with no fault and no refusal; with them what they rest on: the well-formed
configuration (R240), the canonical memory, and the binding INIT made (R142). -/
structure BlockInv (s : State) : Prop where
  noFault : s.fault = none
  noRefusal : s.refused = none
  config : s.cfg.wellFormed = true
  memory : Memory.wf s.mem = true
  bound : s.initialised = true → s.pin.isSome = true ∧ s.pinMode = .output
  i1 : s.locked = s.timer.armed
  i1Handler : s.timer.handler = .noHandler ↔ s.timer.armed = false
  i2 : s.locked = false → s.currentLED = 0 ∧ s.currentBit = 0 ∧ s.bufRef = none
  i3 : s.currentLED ≤ s.cfg.numLeds ∧ s.currentBit ≤ 24
  i4 : s.timer.handler = .fall ∨ s.timer.handler = .resume →
    1 ≤ s.currentLED ∧ 1 ≤ s.currentBit ∧
      (s.currentBit < 24 → s.resumeAction = .continueBit) ∧ (s.currentBit = 24 → s.resumeAction = .advanceLed)
  i5Fall : s.timer.handler = .fall → s.pinLevel = .high
  i5Low : s.timer.handler = .resume ∨ s.timer.handler = .gapDone → s.pinLevel = .low
  i5Idle : s.initialised = true → s.locked = false → s.pinLevel = .low
  i6 : s.timer.handler = .gapDone →
    s.currentLED = s.cfg.numLeds ∧ (1 ≤ s.cfg.numLeds → s.currentBit = 24) ∧
      (s.cfg.numLeds = 0 → s.currentBit = 0)
  i7 : s.timer.armed = true → 1 ≤ s.timer.count ∧ s.timer.count ≤ s.cfg.maxTicks
  i8 : s.locked = true → s.initialised = true ∧ s.bufRef.isSome = true
  i9 : s.timer.handler = .fall →
    (isBitSet s.currentColour (s.currentBit - 1)).map (fun b => (riseFallFor s.cfg b).2) = some s.fallTicks

/-- R253: a state in which a run may end. -/
def Final (s : State) : Prop := s.fault = none ∧ s.refused = none ∧ s.locked = false

/-- R242, R255: every element of the buffer at `base` is admitted and names a palette entry. -/
def BufferValid (s : State) (base : Operand) : Prop :=
  ∀ k, k < s.cfg.numLeds → (ledColour s base k).isSome = true

/-- The edges of the state machine from one state between steps to the next, those that stay included (R141, with the N = 0
edge). -/
def Edge (leds : Nat) : Option Ctrl → Option Ctrl → Prop
  | some .idle, some .idle => True
  | some .idle, some .encodingBitRise => 1 ≤ leds
  | some .idle, some .gapReset => leds = 0
  | some .encodingBitRise, some .encodingBitRise => True
  | some .encodingBitRise, some .encodingBitLow => True
  | some .encodingBitLow, some .encodingBitLow => True
  | some .encodingBitLow, some .encodingBitRise => True
  | some .encodingBitLow, some .gapReset => True
  | some .gapReset, some .gapReset => True
  | some .gapReset, some .idle => True
  | _, _ => False

/-- The one address of host memory an operation may read: the element ADVANCE_LED makes current (R59). -/
def readAddress (i : Instr) (s : State) : Option Nat :=
  match i with
  | .write addr => some (bufAddr addr 0)
  | _ => s.bufPort

/-- A result in which host memory is another. -/
def mapMemory (m : List Host.Cell) : Result → Result
  | .next t => .next { t with mem := m }
  | .fault (.raised r t) => .fault (.raised r { t with mem := m })
  | .refused (.raised c t) => .refused (.raised c { t with mem := m })
  | r => r

/-- The state an outcome of an operation leaves, be it the next one or the one a fault or a refusal leaves. -/
def leftBy : Result → Option State
  | .next t => some t
  | .fault (.raised _ t) => some t
  | .refused (.raised _ t) => some t
  | _ => none

end Sys2Proof.Machine
end

