-- ==== Sys2Proof/Certificates/Slice0/Obligations.lean ====
section
/-! DEFINITION. Certificates/Slice0/Obligations.lean: the statements for the provers. An equation `exec i s = .next { s with
… }` is a completion, a result and a frame at once: every field it does not name, and so every byte of host memory, is
unchanged. -/

open Sys2Proof Sys2Proof.Machine

/-! ## Encoding -/

/-- O1. 95_test_vectors.md W1 to W4 and W7 to W13 (EX: P_PINS = 0..31), and two trace words of R85. -/
def Obligations.WrittenOutWordsDecode : Prop :=
  ∀ c : Config, c.pins = (List.range 32).map (BitVec.ofNat 32) →
    decode c 0x0100000000000005#64 = .instr (.init 5#32) ∧
    decode c 0x0200000020000000#64 = .instr (.write 0x20000000#32) ∧
    decode c 0x0300000000000000#64 = .instr .rdlock ∧
    decode c 0x0400000000000000#64 = .instr .tick ∧
    decode c 0x1000000000000000#64 = .reject .internalOpcode ∧
    decode c 0x1800000000000001#64 = .reject .internalOpcode ∧
    decode c 0x0100000100000005#64 = .reject .reservedBits ∧
    decode c 0x0300000000000001#64 = .reject .reservedBits ∧
    decode c 0x0100000000000020#64 = .reject .pinNotInPlatform ∧
    decode c 0x1900000100000000#64 = .reject .reservedOpcode ∧
    decode c 0xFF00000000000000#64 = .reject .reservedOpcode ∧
    decodeOperation 0x1800000000000001#64 = .instr (.setPin .high) ∧
    decodeOperation 0x1700000300000014#64 = .instr (.arm .gapDone 20#32)

/-- O2. R74 on the number a word is: OPC is bits [63:56], RSV bits [55:32], OPND bits [31:0], the checks in R74's order. -/
def Obligations.DecodeGivesTheFirstVerdict : Prop :=
  ∀ (c : Config) (w : Word64) (opc rsv opnd : Nat),
    w.toNat = opc * 2 ^ 56 + rsv * 2 ^ 32 + opnd → rsv < 2 ^ 24 → opnd < 2 ^ 32 →
    (0x10 ≤ opc → opc ≤ 0x18 → decode c w = .reject .internalOpcode) ∧
    (opc = 0 ∨ (0x05 ≤ opc ∧ opc < 0x10) ∨ 0x18 < opc → decode c w = .reject .reservedOpcode) ∧
    (1 ≤ opc → opc ≤ 4 → rsv ≠ 0 → decode c w = .reject .reservedBits) ∧
    (opc = 3 ∨ opc = 4 → rsv = 0 → opnd ≠ 0 → decode c w = .reject .reservedBits) ∧
    (opc = 1 → rsv = 0 → BitVec.ofNat 32 opnd ∉ c.pins → decode c w = .reject .pinNotInPlatform) ∧
    (opc = 1 → rsv = 0 → BitVec.ofNat 32 opnd ∈ c.pins → decode c w = .instr (.init (BitVec.ofNat 32 opnd))) ∧
    (opc = 2 → rsv = 0 → decode c w = .instr (.write (BitVec.ofNat 32 opnd))) ∧
    (opc = 3 → rsv = 0 → opnd = 0 → decode c w = .instr .rdlock) ∧
    (opc = 4 → rsv = 0 → opnd = 0 → decode c w = .instr .tick)

/-- O3. Every operation's word names that operation, at every operand value (R72, R85, R86). -/
def Obligations.DecodeOfEncodeIsTheOperation : Prop :=
  ∀ i : Instr, decodeOperation (encode i) = .instr i

/-- O4. A step's word is accepted as that step; an internal operation's word is refused as a step (R72, R74, R76). -/
def Obligations.StepWordsAcceptedInternalWordsRefused : Prop :=
  ∀ (c : Config) (i : Instr),
    (i.isStep = true → i.wellFormed c = true → decode c (encode i) = .instr i) ∧
    (i.isStep = false → decode c (encode i) = .reject .internalOpcode)

/-- O5. A word accepted as a step is the word of exactly one step, and that step is well-formed (R74, R78). -/
def Obligations.AcceptedWordIsThatStepsOwnWord : Prop :=
  ∀ (c : Config) (w : Word64) (i : Instr), decode c w = .instr i →
    i.isStep = true ∧ i.wellFormed c = true ∧ encode i = w

/-! ## Reset and configuration -/

/-- O6. R41, field by field, for every configuration. -/
def Obligations.ResetLeavesTheTableOfValues : Prop :=
  ∀ c : Config, ∃ s, s = State.resetWith c ∧
    s.locked = false ∧ s.currentLED = 0 ∧ s.currentBit = 0 ∧ s.currentColour = ⟨0x00, 0x00, 0x00⟩ ∧
    s.resumeAction = .unset ∧ s.bufRef = none ∧ s.fallTicks = 0 ∧
    s.timer.armed = false ∧ s.timer.count = 0 ∧ s.timer.handler = .noHandler ∧
    s.initialised = false ∧ s.pin = none ∧ s.pinMode = .unconfigured ∧ s.pinLevel = .undef ∧
    s.now = 0 ∧ s.trace = [] ∧ s.fault = none ∧ s.refused = none ∧ s.cfg = c

/-- O7. R8, condition by condition, and the refusal of a configuration that fails any of them. -/
def Obligations.ConfigurationWellFormedExactly : Prop :=
  ∀ c : Config,
    (c.wellFormed = true ↔
      1 ≤ c.paletteSize ∧ c.palette.length = c.paletteSize ∧ c.palette[0]? = some ⟨0x00, 0x00, 0x00⟩ ∧
      (∀ n, n ∈ [c.ticks.t0h, c.ticks.t1h, c.ticks.t0l, c.ticks.t1l, c.ticks.tres] →
        1 ≤ n ∧ n ≤ 2 ^ c.timerBits - 1) ∧
      c.ticks.t0h ≠ c.ticks.t1h ∧ c.numLeds ≤ 2 ^ 32 ∧ c.paletteSize ≤ 2 ^ 8) ∧
    (c.wellFormed = false → ∃ f, powerOn c = .refused (.raised .configInvalid f))

/-- O8. R240: a configuration that passes R8 gives R41's state; one that fails is refused, and the state it leaves has no
step. That this state has R41's values is the model's choice (log entry 36), and the last clause is its own choice of a
well-formed platform (log entry 1). -/
def Obligations.PowerOnChecksTheConfiguration : Prop :=
  (∀ c : Config, c.wellFormed = true → powerOn c = .next (State.resetWith c)) ∧
  (∀ c : Config, c.wellFormed = false →
    ∃ f, powerOn c = .refused (.raised .configInvalid f) ∧
      f = { State.resetWith c with refused := some .configInvalid } ∧
      step f = .refused (.noStep .configInvalid)) ∧
  powerOn Config.platform = .next State.reset

/-- O9. The reset state of every well-formed configuration, and the machine's own, meet the invariants of R38. -/
def Obligations.ResetMeetsTheInvariants : Prop :=
  (∀ c : Config, c.wellFormed = true → BlockInv (State.resetWith c)) ∧ BlockInv State.reset

/-! ## The step -/

/-- O10. A word that decodes to a step runs it, on the state in which the word is taken and RDATA carries nothing yet
(R12, R74). How the word is offered is the model's choice (log entries 2 and 12). -/
def Obligations.StepRunsTheDecodedInstruction : Prop :=
  ∀ (s : State) (w : Word64) (rest : List Input) (i : Instr),
    s.fault = none → s.refused = none → s.inputs = .word w :: rest → decode s.cfg w = .instr i →
    step s = exec i { s with inputs := rest, rdata := none }

/-- O11. A word that decode refuses refuses the step, and of S0 to S17 only `refused` changes (R74, R213). That the word is
taken from the inputs and RDATA is emptied is the model's choice (log entries 35 and 12). -/
def Obligations.RefusedWordRefusesTheStep : Prop :=
  ∀ (s : State) (w : Word64) (rest : List Input) (code : RefusalCode),
    s.fault = none → s.refused = none → s.inputs = .word w :: rest → decode s.cfg w = .reject code →
    step s = .refused (.raised code { s with inputs := rest, rdata := none, refused := some code })

/-- O12. With nothing offered, the next step is a TICK: the model's choice (log entry 2), from the fairness of R253. -/
def Obligations.NothingOfferedIsATick : Prop :=
  ∀ s : State, s.fault = none → s.refused = none → s.inputs = [] →
    step s = exec .tick { s with rdata := none }

/-- O13. R60 and R62: a store of the host is seen by every later read of that byte and by no other read; the block's state is
untouched. That it comes as an input is the model's choice (log entry 11). -/
def Obligations.HostStoreChangesOneByte : Prop :=
  ∀ (s : State) (addr : Operand) (v : Byte) (rest : List Input),
    s.fault = none → s.refused = none → s.inputs = .store addr v :: rest →
    ∃ m, step s = .next { s with inputs := rest, mem := m } ∧
      ∀ x, memRead { s with mem := m } x = if x = addr.toNat then some v else memRead s x

/-- O14. R244: a byte that stops being admitted reads as nothing, and no other byte changes (log entries 10 and 11). -/
def Obligations.WithdrawnByteIsNotAdmitted : Prop :=
  ∀ (s : State) (addr : Operand) (rest : List Input),
    s.fault = none → s.refused = none → Memory.wf s.mem = true → s.inputs = .withdraw addr :: rest →
    ∃ m, step s = .next { s with inputs := rest, mem := m } ∧
      ∀ x, memRead { s with mem := m } x = if x = addr.toNat then none else memRead s x

/-- O15. R211, R213: a state with a fault or a refusal has no step. -/
def Obligations.FaultedAndRefusedStatesHaveNoStep : Prop :=
  ∀ s : State,
    (∀ held, s.fault = some held → step s = .fault (.noStep held)) ∧
    (∀ held, s.fault = none → s.refused = some held → step s = .refused (.noStep held))

/-- O16. A fault is recorded with its time, and a refusal by its code, in the state it leaves, which then has no step: R211
and R213, over all operations and all states. -/
def Obligations.EveryStopIsRecordedAndFinal : Prop :=
  ∀ (i : Instr) (s : State),
    (∀ f, exec i s = .fault f → ∃ reason t, f = .raised reason t ∧ t.fault = some ⟨reason, t.now⟩ ∧
      t.refused = s.refused ∧ step t = .fault (.noStep ⟨reason, t.now⟩)) ∧
    (∀ f, exec i s = .refused f → ∃ code t, f = .raised code t ∧ t.refused = some code ∧ t.fault = s.fault ∧
      (s.fault = none → step t = .refused (.noStep code)))

/-! ## The commands -/

/-- O17. INIT (R142, R144): the fault and the refusal in R216's order, otherwise the binding, LOW on the line, one trace
record and `initialised`, and nothing else. -/
def Obligations.InitBindsThePinAndDrivesLow : Prop :=
  ∀ (pin : Operand) (s : State),
    (s.locked = true → exec (.init pin) s =
      .fault (.raised (.initWhileLocked pin) { s with fault := some ⟨.initWhileLocked pin, s.now⟩ })) ∧
    (s.locked = false → s.initialised = true → s.pin ≠ some pin → exec (.init pin) s =
      .refused (.raised .reinitOtherPin { s with refused := some .reinitOtherPin })) ∧
    (s.locked = false → s.initialised = false ∨ s.pin = some pin → exec (.init pin) s =
      .next { s with
        pin := some pin, pinMode := .output, pinLevel := .low, initialised := true
        trace := s.trace ++ [⟨s.now, 0x1800000000000000#64⟩] })

/-- O18. R143: INIT again with the bound pin, while not locked, in a state between steps: only one SETPIN record is added,
and it is no transition. -/
def Obligations.RepeatedInitMakesNoTransition : Prop :=
  ∀ (pin : Operand) (s : State), BlockInv s → s.locked = false → s.initialised = true → s.pin = some pin →
    exec (.init pin) s = .next { s with trace := s.trace ++ [⟨s.now, encode (.setPin .low)⟩] } ∧
    transitions s.pinLevel [⟨s.now, encode (.setPin .low)⟩] = 0

/-- O19. R147: WRITE before INIT faults, whatever the lock says (R216). -/
def Obligations.WriteBeforeInitFaults : Prop :=
  ∀ (addr : Operand) (s : State), s.initialised = false →
    exec (.write addr) s =
      .fault (.raised (.notInitialised addr) { s with fault := some ⟨.notInitialised addr, s.now⟩ })

/-- O20. R146: WRITE while locked changes nothing: no field, no record, and so no transition and no rearmament. -/
def Obligations.WriteWhileLockedDoesNothing : Prop :=
  ∀ (addr : Operand) (s : State), BlockInv s → s.locked = true → exec (.write addr) s = .next s

/-- O21. R148's pseudocode, its three branches: an accepted WRITE locks, captures the buffer, zeroes both indices and runs
ADVANCE_LED. -/
def Obligations.AcceptedWriteRunsAdvanceLed : Prop :=
  ∀ (addr : Operand) (s : State),
    (s.initialised = false → exec (.write addr) s =
      .fault (.raised (.notInitialised addr) { s with fault := some ⟨.notInitialised addr, s.now⟩ })) ∧
    (s.initialised = true → s.locked = true → exec (.write addr) s = .next s) ∧
    (s.initialised = true → s.locked = false → exec (.write addr) s =
      exec .advanceLed { s with locked := true, bufRef := some addr, currentLED := 0, currentBit := 0 })

namespace Sys2Proof.Machine

/-- The state in which the pulse of bit `b` has just begun (R181, R151). -/
def pulseBegun (b : Bool) (s : State) : State :=
  { s with
    pinLevel := .high
    fallTicks := (riseFallFor s.cfg b).2
    timer := ⟨true, (riseFallFor s.cfg b).1, .fall⟩
    trace := s.trace ++ [⟨s.now, encode (.setPin .high)⟩,
      ⟨s.now, encode (.arm .fall (ticksField (riseFallFor s.cfg b).1))⟩] }

/-- The state in which the reset gap has just begun (R155). -/
def gapBegun (s : State) : State :=
  { s with
    pinLevel := .low
    timer := ⟨true, s.cfg.ticks.tres, .gapDone⟩
    trace := s.trace ++ [⟨s.now, encode (.setPin .low)⟩,
      ⟨s.now, encode (.arm .gapDone (ticksField s.cfg.ticks.tres))⟩] }

end Sys2Proof.Machine

/-- O22. An accepted WRITE completes: with N >= 1 and a valid first element it sends the first LED's first bit (the least
significant bit of byte 0), with N = 0 it begins the reset gap (R148, R153, R151, D11). -/
def Obligations.AcceptedWriteCompletes : Prop :=
  ∀ (addr : Operand) (s : State), s.cfg.wellFormed = true → s.initialised = true → s.locked = false →
    s.timer.armed = false →
    (∀ colour, 1 ≤ s.cfg.numLeds → ledColour s addr 0 = some colour →
      exec (.write addr) s = .next (pulseBegun (colour.byte0.getLsbD 0)
        { s with
          locked := true, bufRef := some addr, currentLED := 1, currentBit := 1
          currentColour := colour, resumeAction := .continueBit })) ∧
    (s.cfg.numLeds = 0 →
      exec (.write addr) s = .next (gapBegun
        { s with locked := true, bufRef := some addr, currentLED := 0, currentBit := 0 }))

/-- O23. RDLOCK (R150): bit 0 of the response is `locked`, every other bit 0; nothing of S0 to S17 changes. -/
def Obligations.RdlockAnswersTheLock : Prop :=
  ∀ s : State, ∃ w : Word64, w.toNat = (if s.locked then 1 else 0) ∧
    exec .rdlock s = .next { s with rdata := some w, responses := s.responses ++ [w] }

/-- O24. R79 at a step of the block, of an offered word or of the clock alone: RDATA carries `zext_64(locked)` after RDLOCK
and nothing after INIT, WRITE or TICK. That an old response is gone after the next step is the model's choice (log entry 12);
a store or a withdrawal is the host's step and leaves RDATA as it was (log entry 11). -/
def Obligations.RdataCarriesOnlyRdlocksResponse : Prop :=
  (∀ (s t : State) (w : Word64) (rest : List Input) (i : Instr),
    s.inputs = .word w :: rest → decode s.cfg w = .instr i → step s = .next t →
    t.rdata = (if i = .rdlock then some (BitVec.ofNat 64 s.locked.toNat) else none)) ∧
  (∀ s t : State, s.inputs = [] → step s = .next t → t.rdata = none)

/-! ## The internal operations -/

/-- O25. ADVANCE_LED (R153, R154): the gap once all LEDs are sent; else the element is read, an unadmitted address and then
an index not below M fault with nothing written, and a valid one is copied, both indices step, and the first bit is
encoded. -/
def Obligations.AdvanceLedLoadsTheNextLed : Prop :=
  ∀ s : State,
    (s.cfg.numLeds ≤ s.currentLED → exec .advanceLed s = exec .enterGap s) ∧
    (∀ base, s.currentLED < s.cfg.numLeds → s.bufRef = some base →
      (memRead s (base.toNat + s.currentLED) = none → exec .advanceLed s =
        .fault (.raised (.bufferNotAdmitted (base.toNat + s.currentLED))
          { s with fault := some ⟨.bufferNotAdmitted (base.toNat + s.currentLED), s.now⟩ })) ∧
      (∀ k, memRead s (base.toNat + s.currentLED) = some k → s.cfg.paletteSize ≤ k.toNat →
        exec .advanceLed s =
          .fault (.raised (.paletteIndex s.currentLED k.toNat)
            { s with fault := some ⟨.paletteIndex s.currentLED k.toNat, s.now⟩ })) ∧
      (∀ k colour, memRead s (base.toNat + s.currentLED) = some k → k.toNat < s.cfg.paletteSize →
        s.cfg.palette[k.toNat]? = some colour →
        exec .advanceLed s =
          exec .encodeBit { s with
            currentColour := colour, currentLED := s.currentLED + 1, currentBit := 0 }))

/-- O26. R51: a byte at or above 2^32, or one host memory does not list, is not admitted; a listed one is read. -/
def Obligations.MemReadIsTheListedByte : Prop :=
  ∀ (s : State) (x : Nat), Memory.wf s.mem = true →
    (2 ^ 32 ≤ x → memRead s x = none) ∧ ∀ b, memRead s x = some b ↔ (x, b) ∈ s.mem

/-- O27. ADVANCE_LED completes in both branches (R153, R155). -/
def Obligations.AdvanceLedCompletes : Prop :=
  ∀ s : State, s.cfg.wellFormed = true → s.timer.armed = false →
    (s.cfg.numLeds ≤ s.currentLED → exec .advanceLed s = .next (gapBegun s)) ∧
    (∀ base colour, s.currentLED < s.cfg.numLeds → s.bufRef = some base →
      ledColour s base s.currentLED = some colour →
      exec .advanceLed s = .next (pulseBegun (colour.byte0.getLsbD 0)
        { s with
          currentColour := colour, currentLED := s.currentLED + 1, currentBit := 1
          resumeAction := .continueBit }))

/-- O28. ENCODE_BIT (R151): the rise and fall of stream bit `currentBit`, the resume action chosen before the pulse, the
index stepped, the pulse begun. `(byte2 ++ byte1 ++ byte0)` is the stream with its bit 0 least significant (R82). -/
def Obligations.EncodeBitBeginsTheBitsPulse : Prop :=
  ∀ s : State, s.cfg.wellFormed = true → s.timer.armed = false → s.currentBit < 24 →
    exec .encodeBit s = .next (pulseBegun
      ((s.currentColour.byte2 ++ s.currentColour.byte1 ++ s.currentColour.byte0).getLsbD s.currentBit)
      { s with
        resumeAction := if s.currentBit + 1 < 24 then .continueBit else .advanceLed
        currentBit := s.currentBit + 1 })

/-- O29. BEGIN_PULSE(r, f) (R181), for every pair of counts the timer holds. -/
def Obligations.BeginPulseRaisesTheLine : Prop :=
  ∀ (r f : Nat) (s : State), s.timer.armed = false → 1 ≤ r → r ≤ 2 ^ s.cfg.timerBits - 1 →
    beginPulse r f s = .next { s with
      pinLevel := .high, fallTicks := f, timer := ⟨true, r, .fall⟩
      trace := s.trace ++ [⟨s.now, encode (.setPin .high)⟩, ⟨s.now, encode (.arm .fall (ticksField r))⟩] }

/-- O30. The operation BEGIN_PULSE by itself: its word carries no operand, so the model takes the rise and fall of stream bit
`currentBit - 1` (the model's choice, log entry 5). -/
def Obligations.BeginPulseOperationTakesTheCurrentBit : Prop :=
  ∀ s : State, s.cfg.wellFormed = true → s.timer.armed = false → 1 ≤ s.currentBit → s.currentBit ≤ 24 →
    exec .beginPulse s = .next (pulseBegun
      ((s.currentColour.byte2 ++ s.currentColour.byte1 ++ s.currentColour.byte0).getLsbD (s.currentBit - 1)) s)

/-- O31. FALL (R182): LOW on the line, the timer armed with the kept low duration and RESUME. -/
def Obligations.FallLowersTheLine : Prop :=
  ∀ s : State, s.timer.armed = false → 1 ≤ s.fallTicks → s.fallTicks ≤ 2 ^ s.cfg.timerBits - 1 →
    exec .fall s = .next { s with
      pinLevel := .low, timer := ⟨true, s.fallTicks, .resume⟩
      trace := s.trace ++ [⟨s.now, encode (.setPin .low)⟩,
        ⟨s.now, encode (.arm .resume (ticksField s.fallTicks))⟩] }

/-- O32. RESUME (R156): the dispatch on the action chosen in advance. -/
def Obligations.ResumeDispatchesOnTheAction : Prop :=
  ∀ s : State,
    (s.resumeAction = .continueBit → exec .resume s = exec .encodeBit s) ∧
    (s.resumeAction = .advanceLed → exec .resume s = exec .advanceLed s) ∧
    (s.resumeAction = .unset → exec .resume s =
      .refused (.raised (.invariant .resumeUnset) { s with refused := some (.invariant .resumeUnset) }))

/-- O33. RESUME completes: the next bit, the next LED, or the reset gap (R156, R151, R153, R155). -/
def Obligations.ResumeCompletes : Prop :=
  ∀ s : State, s.cfg.wellFormed = true → s.timer.armed = false →
    (s.resumeAction = .continueBit → s.currentBit < 24 →
      exec .resume s = .next (pulseBegun
        ((s.currentColour.byte2 ++ s.currentColour.byte1 ++ s.currentColour.byte0).getLsbD s.currentBit)
        { s with
          resumeAction := if s.currentBit + 1 < 24 then .continueBit else .advanceLed
          currentBit := s.currentBit + 1 })) ∧
    (s.resumeAction = .advanceLed → s.cfg.numLeds ≤ s.currentLED → exec .resume s = .next (gapBegun s)) ∧
    (∀ base colour, s.resumeAction = .advanceLed → s.currentLED < s.cfg.numLeds → s.bufRef = some base →
      ledColour s base s.currentLED = some colour →
      exec .resume s = .next (pulseBegun (colour.byte0.getLsbD 0)
        { s with
          currentColour := colour, currentLED := s.currentLED + 1, currentBit := 1
          resumeAction := .continueBit }))

/-- O34. ENTER_GAP (R155): LOW on the line and the timer armed with TRES and GAPDONE. -/
def Obligations.EnterGapArmsTheResetGap : Prop :=
  ∀ s : State, s.timer.armed = false → 1 ≤ s.cfg.ticks.tres → s.cfg.ticks.tres ≤ 2 ^ s.cfg.timerBits - 1 →
    exec .enterGap s = .next { s with
      pinLevel := .low, timer := ⟨true, s.cfg.ticks.tres, .gapDone⟩
      trace := s.trace ++ [⟨s.now, encode (.setPin .low)⟩,
        ⟨s.now, encode (.arm .gapDone (ticksField s.cfg.ticks.tres))⟩] }

/-- O35. GAPDONE (R160): the lock cleared, both indices 0, the borrow ended, and nothing else. -/
def Obligations.GapDoneUnlocks : Prop :=
  ∀ s : State, exec .gapDone s =
    .next { s with locked := false, currentLED := 0, currentBit := 0, bufRef := none }

/-- O36. SETPIN (R186): one record with the word {0x18, 24'h0, zext_32(level)}, and the line takes the level. -/
def Obligations.SetPinRecordsAndDrives : Prop :=
  ∀ s : State,
    exec (.setPin .low) s = .next { s with
      pinLevel := .low, trace := s.trace ++ [⟨s.now, 0x1800000000000000#64⟩] } ∧
    exec (.setPin .high) s = .next { s with
      pinLevel := .high, trace := s.trace ++ [⟨s.now, 0x1800000000000001#64⟩] }

/-- O37. ARM (R188): refused while armed; otherwise the count, the handler and the flag are loaded and one record with the
word {0x17, 22'h0, code(h)[1:0], zext_32(n)} is added. -/
def Obligations.ArmLoadsTheTimer : Prop :=
  ∀ (s : State) (h : Handler) (code : Nat) (n : Operand),
    (s.timer.armed = true → exec (.arm h n) s =
      .refused (.raised (.invariant .armWhileArmed) { s with refused := some (.invariant .armWhileArmed) })) ∧
    (s.timer.armed = false → 1 ≤ n.toNat → n.toNat ≤ 2 ^ s.cfg.timerBits - 1 →
      (h = .fall ∧ code = 1) ∨ (h = .resume ∧ code = 2) ∨ (h = .gapDone ∧ code = 3) →
      exec (.arm h n) s = .next { s with
        timer := ⟨true, n.toNat, h⟩
        trace := s.trace ++
          [⟨s.now, BitVec.ofNat 64 (0x17 * 2 ^ 56 + code * 2 ^ 32 + n.toNat)⟩] })

/-- O38. An ARM whose count or handler lies outside the operands' ranges of R188 stops: the model's choice (log entry 8). -/
def Obligations.ArmOutsideItsRangesStops : Prop :=
  ∀ (s : State) (h : Handler) (n : Operand), s.timer.armed = false →
    (n.toNat = 0 ∨ 2 ^ s.cfg.timerBits - 1 < n.toNat → exec (.arm h n) s =
      .refused (.raised (.invariant .armTicks) { s with refused := some (.invariant .armTicks) })) ∧
    (1 ≤ n.toNat → n.toNat ≤ 2 ^ s.cfg.timerBits - 1 → h = .noHandler → exec (.arm h n) s =
      .refused (.raised (.invariant .armHandler) { s with refused := some (.invariant .armHandler) }))

/-! ## The clock -/

/-- O39. TICK (R190): the time advances; an idle timer is left alone, a running one counts down, and the count that reaches 0
clears the timer and runs the handler it names on the advanced state. -/
def Obligations.TickCountsDownAndRunsTheHandler : Prop :=
  ∀ s : State,
    (s.timer.armed = false → exec .tick s = .next { s with now := s.now + 1 }) ∧
    (s.timer.armed = true → 2 ≤ s.timer.count → exec .tick s =
      .next { s with now := s.now + 1, timer := ⟨true, s.timer.count - 1, s.timer.handler⟩ }) ∧
    (s.timer.armed = true → s.timer.count = 1 →
      (s.timer.handler = .fall →
        exec .tick s = exec .fall { s with now := s.now + 1, timer := ⟨false, 0, .noHandler⟩ }) ∧
      (s.timer.handler = .resume →
        exec .tick s = exec .resume { s with now := s.now + 1, timer := ⟨false, 0, .noHandler⟩ }) ∧
      (s.timer.handler = .gapDone →
        exec .tick s = exec .gapDone { s with now := s.now + 1, timer := ⟨false, 0, .noHandler⟩ }))

/-- O40. R191: one TICK runs at most one handler: at an expiry FALL and RESUME leave the timer armed for a later TICK, and
GAPDONE leaves it idle. -/
def Obligations.OneHandlerPerTickRearmsOrEnds : Prop :=
  ∀ s t : State, BlockInv s → s.timer.armed = true → s.timer.count = 1 → exec .tick s = .next t →
    (s.timer.handler = .fall → t.timer.armed = true ∧ t.timer.handler = .resume ∧ 1 ≤ t.timer.count) ∧
    (s.timer.handler = .resume → t.timer.armed = true ∧ t.timer.handler ≠ .resume ∧ 1 ≤ t.timer.count) ∧
    (s.timer.handler = .gapDone → t.timer.armed = false)

/-! ## The pure functions -/

/-- O41. R101: the count nearest to ns * f / 1e9, a tie rounded up: k - 1/2 <= ns * f / 1e9 < k + 1/2. -/
def Obligations.TicksForPeriodRoundsToNearest : Prop :=
  ∀ f ns k : Nat, ticksForPeriod f ns = k ↔
    2 * k * 10 ^ 9 ≤ 2 * (ns * f) + 10 ^ 9 ∧ 2 * (ns * f) < 2 * k * 10 ^ 9 + 10 ^ 9

/-- O42. R102, R103: the five counts from the datasheet values or as given, and the lookup keyed by the bit. -/
def Obligations.RiseFallIsTheTableLookup : Prop :=
  (∀ c : Config, riseFallFor c false = (c.ticks.t0h, c.ticks.t0l) ∧
    riseFallFor c true = (c.ticks.t1h, c.ticks.t1l)) ∧
  (∀ (c : Config) (d : Datasheet), c.timing = .datasheet d →
    c.ticks.t0h = ticksForPeriod d.clockHz d.nsT0H ∧ c.ticks.t1h = ticksForPeriod d.clockHz d.nsT1H ∧
    c.ticks.t0l = ticksForPeriod d.clockHz d.nsT0L ∧ c.ticks.t1l = ticksForPeriod d.clockHz d.nsT1L ∧
    c.ticks.tres = ticksForPeriod d.clockHz d.nsRes) ∧
  (∀ (c : Config) (t : TickTable), c.timing = .ticks t → c.ticks = t)

/-- O43. R121 and R82: stream bit i is bit i % 8 of byte i / 8, that is bit i of the three bytes with byte 0 least
significant; an index of 24 or more has no answer, and the operation that would ask for it is refused as INVARIANT. -/
def Obligations.IsBitSetSelectsTheStreamBit : Prop :=
  (∀ (colour : Colour) (i : Nat),
    (i < 24 → isBitSet colour i = some ((colour.byte2 ++ colour.byte1 ++ colour.byte0).getLsbD i)) ∧
    (24 ≤ i → isBitSet colour i = none)) ∧
  (∀ s : State, 24 ≤ s.currentBit → exec .encodeBit s =
    .refused (.raised (.invariant .bitIndex) { s with refused := some (.invariant .bitIndex) }))

/-- O44. R125: in a well-formed configuration an LED whose element is 0 is sent as 24 bits of 0. -/
def Obligations.IndexZeroIsSentAsAllZeroBits : Prop :=
  ∀ (s : State) (base : Operand) (k : Nat), s.cfg.wellFormed = true →
    memRead s (base.toNat + k) = some 0x00 →
    ∃ colour, ledColour s base k = some colour ∧ colourBits colour = List.replicate 24 false

/-- O45. R162, R254: an LED's bits last pop(C) one-bit durations and 24 - pop(C) zero-bit durations. -/
def Obligations.LedDurationCountsItsOnes : Prop :=
  ∀ (c : Config) (colour : Colour),
    ledTicks c colour =
      pop colour * (c.ticks.t1h + c.ticks.t1l) + (24 - pop colour) * (c.ticks.t0h + c.ticks.t0l)

/-! ## The whole machine -/

/-- O46. Every step keeps the invariants I1 to I9 of R38, from every state that meets them. -/
def Obligations.EveryStepKeepsTheInvariants : Prop :=
  ∀ s t : State, BlockInv s → step s = .next t → BlockInv t

/-- O47. R189, R214: from a state that meets the invariants no step is refused as INVARIANT. -/
def Obligations.InvariantRefusalsAreUnreachable : Prop :=
  ∀ (s t : State) (why : InvariantBreach), BlockInv s → step s ≠ .refused (.raised (.invariant why) t)

/-- O48. Every step keeps the canonical form of host memory (log entry 10). -/
def Obligations.EveryStepKeepsMemoryCanonical : Prop :=
  ∀ s t : State, Memory.wf s.mem = true → step s = .next t → Memory.wf t.mem = true

/-- O49. R56: no operation of the block writes host memory or the palette, and none touches what is offered next; every byte
reads after it as before, also where it stops. -/
def Obligations.NoOperationWritesMemoryOrConfiguration : Prop :=
  ∀ (i : Instr) (s t : State), leftBy (exec i s) = some t →
    (∀ x, memRead t x = memRead s x) ∧ t.mem = s.mem ∧ t.cfg = s.cfg ∧ t.inputs = s.inputs

/-- O50. R104: no step writes any of the five tick counts. -/
def Obligations.TimingTableIsNeverWritten : Prop :=
  ∀ s t : State, leftBy (step s) = some t → t.cfg.ticks = s.cfg.ticks

/-- O51. R40: only an accepted WRITE sets `locked`, and only GAPDONE, itself or as the handler of a TICK, clears it. -/
def Obligations.OnlyWriteLocksAndOnlyGapDoneUnlocks : Prop :=
  ∀ (i : Instr) (s t : State), exec i s = .next t →
    (s.locked = false → t.locked = true →
      ∃ addr, i = .write addr ∧ s.initialised = true ∧ t.bufRef = some addr) ∧
    (s.locked = true → t.locked = false →
      i = .gapDone ∨ (i = .tick ∧ s.timer.armed = true ∧ s.timer.count = 1 ∧ s.timer.handler = .gapDone))

/-- O52. R59, R62: an operation depends on host memory only through the one element it may read; a store to any other byte
changes nothing it does. -/
def Obligations.OnlyTheCurrentElementIsRead : Prop :=
  ∀ (i : Instr) (s : State) (m : List Host.Cell),
    (∀ x, readAddress i s = some x → memRead { s with mem := m } x = memRead s x) →
    exec i { s with mem := m } = mapMemory m (exec i s)

/-- O53. R37, R85: the trace only grows, and what a step adds is stamped with the time the step ends at. -/
def Obligations.TraceOnlyGrowsWithTheCurrentTime : Prop :=
  ∀ s t : State, leftBy (step s) = some t →
    ∃ added, t.trace = s.trace ++ added ∧ (∀ r, r ∈ added → r.time = t.now) ∧
      s.now ≤ t.now ∧ t.now ≤ s.now + 1

/-- O54. R141: every step follows an edge of the state machine, or stays. -/
def Obligations.StepsFollowTheStateMachine : Prop :=
  ∀ s t : State, BlockInv s → step s = .next t → Edge s.cfg.numLeds s.ctrl t.ctrl

/-- O55. R183: once a pulse of bit b has begun, the line is HIGH for exactly its rise and LOW for exactly its fall, and the
tick that ends the fall runs RESUME. -/
def Obligations.PulseLastsExactlyItsTicks : Prop :=
  ∀ (s : State) (b : Bool), BlockInv s → s.timer = ⟨true, (riseFallFor s.cfg b).1, .fall⟩ →
    s.fallTicks = (riseFallFor s.cfg b).2 →
    (∀ k, k < (riseFallFor s.cfg b).1 →
      ∃ t, runTicks k s = .next t ∧ t.pinLevel = .high ∧ t.now = s.now + k) ∧
    (∀ k, (riseFallFor s.cfg b).1 ≤ k → k < bitTicks s.cfg b →
      ∃ t, runTicks k s = .next t ∧ t.pinLevel = .low ∧ t.now = s.now + k) ∧
    (∃ t, runTicks (bitTicks s.cfg b - 1) s = .next t ∧
      exec .tick t = exec .resume { t with
        now := s.now + bitTicks s.cfg b, timer := ⟨false, 0, .noHandler⟩ })

/-- O56. R81, R159, R161, R162: an accepted WRITE of a valid buffer puts exactly the frame of its colours on the line, bit by
bit and then the reset gap; it is locked at every tick before the gap ends and unlocked at that tick. -/
def Obligations.WriteSendsExactlyTheFrame : Prop :=
  ∀ (s : State) (addr : Operand), BlockInv s → s.initialised = true → s.locked = false → BufferValid s addr →
    ∃ begun, exec (.write addr) s = .next begun ∧
      (∀ k, k < frameTicks s.cfg (frameColours s addr) + s.cfg.ticks.tres →
        ∃ t, runTicks k begun = .next t ∧ t.locked = true ∧ t.now = s.now + k) ∧
      (∃ t, runTicks (frameTicks s.cfg (frameColours s addr) + s.cfg.ticks.tres) begun = .next t ∧
        t.locked = false ∧ t.pinLevel = .low ∧ t.fault = none ∧ t.refused = none ∧
        t.now = s.now + (frameTicks s.cfg (frameColours s addr) + s.cfg.ticks.tres) ∧
        t.trace = s.trace ++ frameTrace s.cfg s.now (frameColours s addr))

/-- O57. R88: the line decoder recovers every colour of a frame from its high intervals, however long the line is watched
after it, and tells two frames apart by the low interval between them. The premise on TRES says that even the shortest gap,
the shorter low phase and TRES, is longer than max(T0L, T1L), the length R88 marks a gap by. That a frame with no colour
decodes to no frame, and that one whose gap has not been watched long enough counts as a frame, is the model's choice (log
entry 37). -/
def Obligations.LineDecoderRecoversTheColours : Prop :=
  (∀ (c : Config) (t upto : Nat) (colours : List Colour), c.wellFormed = true →
    decodeLine c upto (frameTrace c t colours) = some (if colours = [] then [] else [colours])) ∧
  (∀ (c : Config) (t t' upto : Nat) (first second : List Colour), c.wellFormed = true →
    max c.ticks.t0l c.ticks.t1l < min c.ticks.t0l c.ticks.t1l + c.ticks.tres →
    first ≠ [] → second ≠ [] → t + frameTicks c first + c.ticks.tres ≤ t' →
    decodeLine c upto (frameTrace c t first ++ frameTrace c t' second) = some [first, second])

/-- O58. R86, R87: the fixed expansions of the program lines, and `send` as `waitready` and then the WRITE, which is offered
only when `waitready` is done. That a loop is followed for an allowance of polls and may then be still polling is the model's
choice (log entry 33). -/
def Obligations.AssemblerLinesExpandToTheirWords : Prop :=
  (∀ pin : Operand, (AsmLine.init pin).words = some [BitVec.ofNat 64 (0x01 * 2 ^ 56 + pin.toNat)]) ∧
  (∀ addr : Operand, (AsmLine.write addr).words = some [BitVec.ofNat 64 (0x02 * 2 ^ 56 + addr.toNat)]) ∧
  AsmLine.rdlock.words = some [0x0300000000000000#64] ∧
  (∀ n, (AsmLine.tick n).words = some (List.replicate n 0x0400000000000000#64)) ∧
  (∀ (fuel : Nat) (addr : Operand) (s t : State),
    (waitReady fuel s = .next t →
      runLine fuel (.send addr) s = .ofStep (give (BitVec.ofNat 64 (0x02 * 2 ^ 56 + addr.toNat)) t)) ∧
    (waitReady fuel s = .polling t → runLine fuel (.send addr) s = .polling t))

/-- O59. R87: `waitready` is done only with the block idle and 0 as the last answer; while it is not done the block is between
steps, and one tick has passed for each poll followed (log entry 33). -/
def Obligations.WaitReadyEndsWithTheBlockIdle : Prop :=
  ∀ (fuel : Nat) (s t : State), BlockInv s →
    (waitReady fuel s = .next t → BlockInv t ∧ t.locked = false ∧ t.rdata = some 0#64) ∧
    (waitReady fuel s = .polling t → BlockInv t ∧ t.now = s.now + fuel)

/-- O60. R87 with R162: followed for enough polls (the model's allowance, log entry 33), `waitready` is done or meets a
fault; it does not poll for ever. -/
def Obligations.WaitReadyDoesNotPollForEver : Prop :=
  ∀ s : State, BlockInv s →
    ∃ fuel, (∃ t, waitReady fuel s = .next t ∧ t.locked = false) ∨ ∃ f, waitReady fuel s = .fault f
end

