-- ==== Sys2Proof/Laws/Decode.lean ====
section
/-! SUPPORT. Laws/Decode.lean: the fields of a word put together from its fields, and the fields as numbers (30_encoding.md
R71). -/

namespace Sys2Proof

theorem opcField_toNat (w : Word64) : (opcField w).toNat = w.toNat / 2 ^ 56 := by
  have := w.isLt
  simp only [opcField, BitVec.extractLsb'_toNat, Nat.shiftRight_eq_div_pow]
  omega

theorem rsvField_toNat (w : Word64) : (rsvField w).toNat = w.toNat / 2 ^ 32 % 2 ^ 24 := by
  simp only [rsvField, BitVec.extractLsb'_toNat, Nat.shiftRight_eq_div_pow]

theorem opndField_toNat (w : Word64) : (opndField w).toNat = w.toNat % 2 ^ 32 := by
  simp [opndField, BitVec.extractLsb'_toNat]

theorem wordOf_toNat (a : BitVec 8) (b : BitVec 24) (c : Operand) :
    (wordOf a b c).toNat = a.toNat * 2 ^ 56 + b.toNat * 2 ^ 32 + c.toNat := by
  have ha := a.isLt
  have hb := b.isLt
  have hc := c.isLt
  change ((a ++ b) ++ c : BitVec (8 + 24 + 32)).toNat = _
  rw [BitVec.toNat_append, ← Nat.shiftLeft_add_eq_or_of_lt hc, BitVec.toNat_append,
    ← Nat.shiftLeft_add_eq_or_of_lt hb]
  simp only [Nat.shiftLeft_eq]
  omega

@[simp] theorem opcField_wordOf (a : BitVec 8) (b : BitVec 24) (c : Operand) : opcField (wordOf a b c) = a := by
  have hb := b.isLt
  have hc := c.isLt
  apply BitVec.eq_of_toNat_eq
  rw [opcField_toNat, wordOf_toNat]
  omega

@[simp] theorem rsvField_wordOf (a : BitVec 8) (b : BitVec 24) (c : Operand) : rsvField (wordOf a b c) = b := by
  have hb := b.isLt
  have hc := c.isLt
  apply BitVec.eq_of_toNat_eq
  rw [rsvField_toNat, wordOf_toNat]
  omega

@[simp] theorem opndField_wordOf (a : BitVec 8) (b : BitVec 24) (c : Operand) : opndField (wordOf a b c) = c := by
  have hc := c.isLt
  apply BitVec.eq_of_toNat_eq
  rw [opndField_toNat, wordOf_toNat]
  omega

theorem wordOf_fields (w : Word64) : wordOf (opcField w) (rsvField w) (opndField w) = w := by
  apply BitVec.eq_of_toNat_eq
  rw [wordOf_toNat, opcField_toNat, rsvField_toNat, opndField_toNat]
  omega

@[simp] theorem Level.ofCode_code (l : Level) : Level.ofCode l.code = l := by cases l <;> rfl

@[simp] theorem Handler.ofCode_code (h : Handler) : Handler.ofCode h.code = h := by cases h <;> rfl

end Sys2Proof
end

