-- ==== Sys2Proof/Laws/Memory.lean ====
section
/-! SUPPORT. Laws/Memory.lean: reading after a store and after a withdrawal, and that both keep the canonical form. -/

namespace Sys2Proof.Machine

theorem Memory.read_write_same (m : List Host.Cell) (x : Nat) (v : Byte) :
    Memory.read (Memory.write m x v) x = some v := by
  induction m with
  | nil => simp [Memory.write, Memory.read]
  | cons c rest ih =>
    obtain ⟨a, b⟩ := c
    unfold Memory.write
    split
    · simp [Memory.read]
    · split
      · simp [Memory.read]
      · next h => simp [Memory.read, ih, Ne.symm h]

theorem Memory.read_write_other (m : List Host.Cell) {x y : Nat} (v : Byte) (h : y ≠ x) :
    Memory.read (Memory.write m x v) y = Memory.read m y := by
  induction m with
  | nil => simp [Memory.write, Memory.read, Ne.symm h]
  | cons c rest ih =>
    obtain ⟨a, b⟩ := c
    unfold Memory.write
    split
    · simp [Memory.read, Ne.symm h]
    · split
      · next hx => subst hx; simp [Memory.read, Ne.symm h]
      · simp [Memory.read, ih]

theorem Memory.read_none_below {m : List Host.Cell} {low x : Nat} (hm : Memory.wfFrom low m = true)
    (h : x < low) : Memory.read m x = none := by
  induction m generalizing low with
  | nil => rfl
  | cons c rest ih =>
    obtain ⟨a, b⟩ := c
    simp only [Memory.wfFrom, Bool.and_eq_true, decide_eq_true_eq] at hm
    simp only [Memory.read]
    rw [if_neg (by omega)]
    exact ih hm.2 (by omega)

theorem Memory.read_withdraw_same {m : List Host.Cell} {low : Nat} (x : Nat)
    (hm : Memory.wfFrom low m = true) : Memory.read (Memory.withdraw m x) x = none := by
  induction m generalizing low with
  | nil => rfl
  | cons c rest ih =>
    obtain ⟨a, b⟩ := c
    simp only [Memory.wfFrom, Bool.and_eq_true, decide_eq_true_eq] at hm
    simp only [Memory.withdraw]
    split
    · next h => exact Memory.read_none_below hm.2 (by omega)
    · next h => simp [Memory.read, h, ih hm.2]

theorem Memory.read_withdraw_other (m : List Host.Cell) {x y : Nat} (h : y ≠ x) :
    Memory.read (Memory.withdraw m x) y = Memory.read m y := by
  induction m with
  | nil => rfl
  | cons c rest ih =>
    obtain ⟨a, b⟩ := c
    simp only [Memory.withdraw]
    split
    · next hx => subst hx; simp [Memory.read, Ne.symm h]
    · simp [Memory.read, ih]

theorem Memory.wfFrom_weaken {m : List Host.Cell} {low low' : Nat} (h : low' ≤ low)
    (hm : Memory.wfFrom low m = true) : Memory.wfFrom low' m = true := by
  cases m with
  | nil => rfl
  | cons c rest =>
    simp only [Memory.wfFrom, Bool.and_eq_true, decide_eq_true_eq] at hm ⊢
    exact ⟨⟨by omega, hm.1.2⟩, hm.2⟩

theorem Memory.wfFrom_write {m : List Host.Cell} {low x : Nat} (v : Byte) (hm : Memory.wfFrom low m = true)
    (hl : low ≤ x) (hx : x < 2 ^ pAddrBits) : Memory.wfFrom low (Memory.write m x v) = true := by
  induction m generalizing low with
  | nil => simp [Memory.write, Memory.wfFrom, hl, hx]
  | cons c rest ih =>
    obtain ⟨a, b⟩ := c
    simp only [Memory.wfFrom, Bool.and_eq_true, decide_eq_true_eq] at hm
    unfold Memory.write
    split
    · next h => simp [Memory.wfFrom, hl, hx, hm.1.2, hm.2]; omega
    · split
      · next h => subst h; simp [Memory.wfFrom, hl, hx, hm.2]
      · simp only [Memory.wfFrom, Bool.and_eq_true, decide_eq_true_eq]
        exact ⟨hm.1, ih hm.2 (by omega)⟩

theorem Memory.wfFrom_withdraw {m : List Host.Cell} {low : Nat} (x : Nat) (hm : Memory.wfFrom low m = true) :
    Memory.wfFrom low (Memory.withdraw m x) = true := by
  induction m generalizing low with
  | nil => rfl
  | cons c rest ih =>
    obtain ⟨a, b⟩ := c
    simp only [Memory.wfFrom, Bool.and_eq_true, decide_eq_true_eq] at hm
    simp only [Memory.withdraw]
    split
    · exact Memory.wfFrom_weaken (by omega) hm.2
    · simp only [Memory.wfFrom, Bool.and_eq_true, decide_eq_true_eq]
      exact ⟨hm.1, ih hm.2⟩

/-- A host's store keeps the canonical form. -/
theorem Memory.wf_write {m : List Host.Cell} (a : Operand) (v : Byte) (hm : Memory.wf m = true) :
    Memory.wf (Memory.write m a.toNat v) = true :=
  Memory.wfFrom_write v hm (Nat.zero_le _) a.isLt

/-- A withdrawal keeps the canonical form. -/
theorem Memory.wf_withdraw {m : List Host.Cell} (a : Operand) (hm : Memory.wf m = true) :
    Memory.wf (Memory.withdraw m a.toNat) = true :=
  Memory.wfFrom_withdraw a.toNat hm

theorem reset_memory_wf : Memory.wf State.reset.mem = true := rfl

end Sys2Proof.Machine
end

