-- ==== Sys2Proof/Laws/State.lean ====
section
/-! SUPPORT. Laws/State.lean: what each named update of the state does to each field, one lemma per field and update, all by
definition, so that no later proof unfolds a record update. -/

namespace Sys2Proof.Machine

variable (s : State)

@[simp] theorem lock_locked : (s.lock).locked = true := rfl
@[simp] theorem lock_currentLED : (s.lock).currentLED = s.currentLED := rfl
@[simp] theorem lock_currentBit : (s.lock).currentBit = s.currentBit := rfl
@[simp] theorem lock_currentColour : (s.lock).currentColour = s.currentColour := rfl
@[simp] theorem lock_resumeAction : (s.lock).resumeAction = s.resumeAction := rfl
@[simp] theorem lock_bufRef : (s.lock).bufRef = s.bufRef := rfl
@[simp] theorem lock_fallTicks : (s.lock).fallTicks = s.fallTicks := rfl
@[simp] theorem lock_timer : (s.lock).timer = s.timer := rfl
@[simp] theorem lock_initialised : (s.lock).initialised = s.initialised := rfl
@[simp] theorem lock_pin : (s.lock).pin = s.pin := rfl
@[simp] theorem lock_pinMode : (s.lock).pinMode = s.pinMode := rfl
@[simp] theorem lock_pinLevel : (s.lock).pinLevel = s.pinLevel := rfl
@[simp] theorem lock_now : (s.lock).now = s.now := rfl
@[simp] theorem lock_trace : (s.lock).trace = s.trace := rfl
@[simp] theorem lock_fault : (s.lock).fault = s.fault := rfl
@[simp] theorem lock_refused : (s.lock).refused = s.refused := rfl
@[simp] theorem lock_cfg : (s.lock).cfg = s.cfg := rfl
@[simp] theorem lock_mem : (s.lock).mem = s.mem := rfl
@[simp] theorem lock_inputs : (s.lock).inputs = s.inputs := rfl
@[simp] theorem lock_rdata : (s.lock).rdata = s.rdata := rfl
@[simp] theorem lock_responses : (s.lock).responses = s.responses := rfl

@[simp] theorem unlock_locked : (s.unlock).locked = false := rfl
@[simp] theorem unlock_currentLED : (s.unlock).currentLED = s.currentLED := rfl
@[simp] theorem unlock_currentBit : (s.unlock).currentBit = s.currentBit := rfl
@[simp] theorem unlock_currentColour : (s.unlock).currentColour = s.currentColour := rfl
@[simp] theorem unlock_resumeAction : (s.unlock).resumeAction = s.resumeAction := rfl
@[simp] theorem unlock_bufRef : (s.unlock).bufRef = s.bufRef := rfl
@[simp] theorem unlock_fallTicks : (s.unlock).fallTicks = s.fallTicks := rfl
@[simp] theorem unlock_timer : (s.unlock).timer = s.timer := rfl
@[simp] theorem unlock_initialised : (s.unlock).initialised = s.initialised := rfl
@[simp] theorem unlock_pin : (s.unlock).pin = s.pin := rfl
@[simp] theorem unlock_pinMode : (s.unlock).pinMode = s.pinMode := rfl
@[simp] theorem unlock_pinLevel : (s.unlock).pinLevel = s.pinLevel := rfl
@[simp] theorem unlock_now : (s.unlock).now = s.now := rfl
@[simp] theorem unlock_trace : (s.unlock).trace = s.trace := rfl
@[simp] theorem unlock_fault : (s.unlock).fault = s.fault := rfl
@[simp] theorem unlock_refused : (s.unlock).refused = s.refused := rfl
@[simp] theorem unlock_cfg : (s.unlock).cfg = s.cfg := rfl
@[simp] theorem unlock_mem : (s.unlock).mem = s.mem := rfl
@[simp] theorem unlock_inputs : (s.unlock).inputs = s.inputs := rfl
@[simp] theorem unlock_rdata : (s.unlock).rdata = s.rdata := rfl
@[simp] theorem unlock_responses : (s.unlock).responses = s.responses := rfl

@[simp] theorem bindPin_locked (p : Operand) : (s.bindPin p).locked = s.locked := rfl
@[simp] theorem bindPin_currentLED (p : Operand) : (s.bindPin p).currentLED = s.currentLED := rfl
@[simp] theorem bindPin_currentBit (p : Operand) : (s.bindPin p).currentBit = s.currentBit := rfl
@[simp] theorem bindPin_currentColour (p : Operand) : (s.bindPin p).currentColour = s.currentColour := rfl
@[simp] theorem bindPin_resumeAction (p : Operand) : (s.bindPin p).resumeAction = s.resumeAction := rfl
@[simp] theorem bindPin_bufRef (p : Operand) : (s.bindPin p).bufRef = s.bufRef := rfl
@[simp] theorem bindPin_fallTicks (p : Operand) : (s.bindPin p).fallTicks = s.fallTicks := rfl
@[simp] theorem bindPin_timer (p : Operand) : (s.bindPin p).timer = s.timer := rfl
@[simp] theorem bindPin_initialised (p : Operand) : (s.bindPin p).initialised = s.initialised := rfl
@[simp] theorem bindPin_pin (p : Operand) : (s.bindPin p).pin = some p := rfl
@[simp] theorem bindPin_pinMode (p : Operand) : (s.bindPin p).pinMode = .output := rfl
@[simp] theorem bindPin_pinLevel (p : Operand) : (s.bindPin p).pinLevel = s.pinLevel := rfl
@[simp] theorem bindPin_now (p : Operand) : (s.bindPin p).now = s.now := rfl
@[simp] theorem bindPin_trace (p : Operand) : (s.bindPin p).trace = s.trace := rfl
@[simp] theorem bindPin_fault (p : Operand) : (s.bindPin p).fault = s.fault := rfl
@[simp] theorem bindPin_refused (p : Operand) : (s.bindPin p).refused = s.refused := rfl
@[simp] theorem bindPin_cfg (p : Operand) : (s.bindPin p).cfg = s.cfg := rfl
@[simp] theorem bindPin_mem (p : Operand) : (s.bindPin p).mem = s.mem := rfl
@[simp] theorem bindPin_inputs (p : Operand) : (s.bindPin p).inputs = s.inputs := rfl
@[simp] theorem bindPin_rdata (p : Operand) : (s.bindPin p).rdata = s.rdata := rfl
@[simp] theorem bindPin_responses (p : Operand) : (s.bindPin p).responses = s.responses := rfl

@[simp] theorem markInitialised_locked : (s.markInitialised).locked = s.locked := rfl
@[simp] theorem markInitialised_currentLED : (s.markInitialised).currentLED = s.currentLED := rfl
@[simp] theorem markInitialised_currentBit : (s.markInitialised).currentBit = s.currentBit := rfl
@[simp] theorem markInitialised_currentColour : (s.markInitialised).currentColour = s.currentColour := rfl
@[simp] theorem markInitialised_resumeAction : (s.markInitialised).resumeAction = s.resumeAction := rfl
@[simp] theorem markInitialised_bufRef : (s.markInitialised).bufRef = s.bufRef := rfl
@[simp] theorem markInitialised_fallTicks : (s.markInitialised).fallTicks = s.fallTicks := rfl
@[simp] theorem markInitialised_timer : (s.markInitialised).timer = s.timer := rfl
@[simp] theorem markInitialised_initialised : (s.markInitialised).initialised = true := rfl
@[simp] theorem markInitialised_pin : (s.markInitialised).pin = s.pin := rfl
@[simp] theorem markInitialised_pinMode : (s.markInitialised).pinMode = s.pinMode := rfl
@[simp] theorem markInitialised_pinLevel : (s.markInitialised).pinLevel = s.pinLevel := rfl
@[simp] theorem markInitialised_now : (s.markInitialised).now = s.now := rfl
@[simp] theorem markInitialised_trace : (s.markInitialised).trace = s.trace := rfl
@[simp] theorem markInitialised_fault : (s.markInitialised).fault = s.fault := rfl
@[simp] theorem markInitialised_refused : (s.markInitialised).refused = s.refused := rfl
@[simp] theorem markInitialised_cfg : (s.markInitialised).cfg = s.cfg := rfl
@[simp] theorem markInitialised_mem : (s.markInitialised).mem = s.mem := rfl
@[simp] theorem markInitialised_inputs : (s.markInitialised).inputs = s.inputs := rfl
@[simp] theorem markInitialised_rdata : (s.markInitialised).rdata = s.rdata := rfl
@[simp] theorem markInitialised_responses : (s.markInitialised).responses = s.responses := rfl

@[simp] theorem beginFrame_locked (a : Operand) : (s.beginFrame a).locked = s.locked := rfl
@[simp] theorem beginFrame_currentLED (a : Operand) : (s.beginFrame a).currentLED = 0 := rfl
@[simp] theorem beginFrame_currentBit (a : Operand) : (s.beginFrame a).currentBit = 0 := rfl
@[simp] theorem beginFrame_currentColour (a : Operand) : (s.beginFrame a).currentColour = s.currentColour := rfl
@[simp] theorem beginFrame_resumeAction (a : Operand) : (s.beginFrame a).resumeAction = s.resumeAction := rfl
@[simp] theorem beginFrame_bufRef (a : Operand) : (s.beginFrame a).bufRef = some a := rfl
@[simp] theorem beginFrame_fallTicks (a : Operand) : (s.beginFrame a).fallTicks = s.fallTicks := rfl
@[simp] theorem beginFrame_timer (a : Operand) : (s.beginFrame a).timer = s.timer := rfl
@[simp] theorem beginFrame_initialised (a : Operand) : (s.beginFrame a).initialised = s.initialised := rfl
@[simp] theorem beginFrame_pin (a : Operand) : (s.beginFrame a).pin = s.pin := rfl
@[simp] theorem beginFrame_pinMode (a : Operand) : (s.beginFrame a).pinMode = s.pinMode := rfl
@[simp] theorem beginFrame_pinLevel (a : Operand) : (s.beginFrame a).pinLevel = s.pinLevel := rfl
@[simp] theorem beginFrame_now (a : Operand) : (s.beginFrame a).now = s.now := rfl
@[simp] theorem beginFrame_trace (a : Operand) : (s.beginFrame a).trace = s.trace := rfl
@[simp] theorem beginFrame_fault (a : Operand) : (s.beginFrame a).fault = s.fault := rfl
@[simp] theorem beginFrame_refused (a : Operand) : (s.beginFrame a).refused = s.refused := rfl
@[simp] theorem beginFrame_cfg (a : Operand) : (s.beginFrame a).cfg = s.cfg := rfl
@[simp] theorem beginFrame_mem (a : Operand) : (s.beginFrame a).mem = s.mem := rfl
@[simp] theorem beginFrame_inputs (a : Operand) : (s.beginFrame a).inputs = s.inputs := rfl
@[simp] theorem beginFrame_rdata (a : Operand) : (s.beginFrame a).rdata = s.rdata := rfl
@[simp] theorem beginFrame_responses (a : Operand) : (s.beginFrame a).responses = s.responses := rfl

@[simp] theorem endFrame_locked : (s.endFrame).locked = s.locked := rfl
@[simp] theorem endFrame_currentLED : (s.endFrame).currentLED = 0 := rfl
@[simp] theorem endFrame_currentBit : (s.endFrame).currentBit = 0 := rfl
@[simp] theorem endFrame_currentColour : (s.endFrame).currentColour = s.currentColour := rfl
@[simp] theorem endFrame_resumeAction : (s.endFrame).resumeAction = s.resumeAction := rfl
@[simp] theorem endFrame_bufRef : (s.endFrame).bufRef = none := rfl
@[simp] theorem endFrame_fallTicks : (s.endFrame).fallTicks = s.fallTicks := rfl
@[simp] theorem endFrame_timer : (s.endFrame).timer = s.timer := rfl
@[simp] theorem endFrame_initialised : (s.endFrame).initialised = s.initialised := rfl
@[simp] theorem endFrame_pin : (s.endFrame).pin = s.pin := rfl
@[simp] theorem endFrame_pinMode : (s.endFrame).pinMode = s.pinMode := rfl
@[simp] theorem endFrame_pinLevel : (s.endFrame).pinLevel = s.pinLevel := rfl
@[simp] theorem endFrame_now : (s.endFrame).now = s.now := rfl
@[simp] theorem endFrame_trace : (s.endFrame).trace = s.trace := rfl
@[simp] theorem endFrame_fault : (s.endFrame).fault = s.fault := rfl
@[simp] theorem endFrame_refused : (s.endFrame).refused = s.refused := rfl
@[simp] theorem endFrame_cfg : (s.endFrame).cfg = s.cfg := rfl
@[simp] theorem endFrame_mem : (s.endFrame).mem = s.mem := rfl
@[simp] theorem endFrame_inputs : (s.endFrame).inputs = s.inputs := rfl
@[simp] theorem endFrame_rdata : (s.endFrame).rdata = s.rdata := rfl
@[simp] theorem endFrame_responses : (s.endFrame).responses = s.responses := rfl

@[simp] theorem loadLed_locked (c : Colour) : (s.loadLed c).locked = s.locked := rfl
@[simp] theorem loadLed_currentLED (c : Colour) : (s.loadLed c).currentLED = s.currentLED + 1 := rfl
@[simp] theorem loadLed_currentBit (c : Colour) : (s.loadLed c).currentBit = 0 := rfl
@[simp] theorem loadLed_currentColour (c : Colour) : (s.loadLed c).currentColour = c := rfl
@[simp] theorem loadLed_resumeAction (c : Colour) : (s.loadLed c).resumeAction = s.resumeAction := rfl
@[simp] theorem loadLed_bufRef (c : Colour) : (s.loadLed c).bufRef = s.bufRef := rfl
@[simp] theorem loadLed_fallTicks (c : Colour) : (s.loadLed c).fallTicks = s.fallTicks := rfl
@[simp] theorem loadLed_timer (c : Colour) : (s.loadLed c).timer = s.timer := rfl
@[simp] theorem loadLed_initialised (c : Colour) : (s.loadLed c).initialised = s.initialised := rfl
@[simp] theorem loadLed_pin (c : Colour) : (s.loadLed c).pin = s.pin := rfl
@[simp] theorem loadLed_pinMode (c : Colour) : (s.loadLed c).pinMode = s.pinMode := rfl
@[simp] theorem loadLed_pinLevel (c : Colour) : (s.loadLed c).pinLevel = s.pinLevel := rfl
@[simp] theorem loadLed_now (c : Colour) : (s.loadLed c).now = s.now := rfl
@[simp] theorem loadLed_trace (c : Colour) : (s.loadLed c).trace = s.trace := rfl
@[simp] theorem loadLed_fault (c : Colour) : (s.loadLed c).fault = s.fault := rfl
@[simp] theorem loadLed_refused (c : Colour) : (s.loadLed c).refused = s.refused := rfl
@[simp] theorem loadLed_cfg (c : Colour) : (s.loadLed c).cfg = s.cfg := rfl
@[simp] theorem loadLed_mem (c : Colour) : (s.loadLed c).mem = s.mem := rfl
@[simp] theorem loadLed_inputs (c : Colour) : (s.loadLed c).inputs = s.inputs := rfl
@[simp] theorem loadLed_rdata (c : Colour) : (s.loadLed c).rdata = s.rdata := rfl
@[simp] theorem loadLed_responses (c : Colour) : (s.loadLed c).responses = s.responses := rfl

@[simp] theorem takeBit_locked : (s.takeBit).locked = s.locked := rfl
@[simp] theorem takeBit_currentLED : (s.takeBit).currentLED = s.currentLED := rfl
@[simp] theorem takeBit_currentBit : (s.takeBit).currentBit = s.currentBit + 1 := rfl
@[simp] theorem takeBit_currentColour : (s.takeBit).currentColour = s.currentColour := rfl
@[simp] theorem takeBit_resumeAction : (s.takeBit).resumeAction = resumeAfter s.currentBit := rfl
@[simp] theorem takeBit_bufRef : (s.takeBit).bufRef = s.bufRef := rfl
@[simp] theorem takeBit_fallTicks : (s.takeBit).fallTicks = s.fallTicks := rfl
@[simp] theorem takeBit_timer : (s.takeBit).timer = s.timer := rfl
@[simp] theorem takeBit_initialised : (s.takeBit).initialised = s.initialised := rfl
@[simp] theorem takeBit_pin : (s.takeBit).pin = s.pin := rfl
@[simp] theorem takeBit_pinMode : (s.takeBit).pinMode = s.pinMode := rfl
@[simp] theorem takeBit_pinLevel : (s.takeBit).pinLevel = s.pinLevel := rfl
@[simp] theorem takeBit_now : (s.takeBit).now = s.now := rfl
@[simp] theorem takeBit_trace : (s.takeBit).trace = s.trace := rfl
@[simp] theorem takeBit_fault : (s.takeBit).fault = s.fault := rfl
@[simp] theorem takeBit_refused : (s.takeBit).refused = s.refused := rfl
@[simp] theorem takeBit_cfg : (s.takeBit).cfg = s.cfg := rfl
@[simp] theorem takeBit_mem : (s.takeBit).mem = s.mem := rfl
@[simp] theorem takeBit_inputs : (s.takeBit).inputs = s.inputs := rfl
@[simp] theorem takeBit_rdata : (s.takeBit).rdata = s.rdata := rfl
@[simp] theorem takeBit_responses : (s.takeBit).responses = s.responses := rfl

@[simp] theorem keepFall_locked (f : Nat) : (s.keepFall f).locked = s.locked := rfl
@[simp] theorem keepFall_currentLED (f : Nat) : (s.keepFall f).currentLED = s.currentLED := rfl
@[simp] theorem keepFall_currentBit (f : Nat) : (s.keepFall f).currentBit = s.currentBit := rfl
@[simp] theorem keepFall_currentColour (f : Nat) : (s.keepFall f).currentColour = s.currentColour := rfl
@[simp] theorem keepFall_resumeAction (f : Nat) : (s.keepFall f).resumeAction = s.resumeAction := rfl
@[simp] theorem keepFall_bufRef (f : Nat) : (s.keepFall f).bufRef = s.bufRef := rfl
@[simp] theorem keepFall_fallTicks (f : Nat) : (s.keepFall f).fallTicks = f := rfl
@[simp] theorem keepFall_timer (f : Nat) : (s.keepFall f).timer = s.timer := rfl
@[simp] theorem keepFall_initialised (f : Nat) : (s.keepFall f).initialised = s.initialised := rfl
@[simp] theorem keepFall_pin (f : Nat) : (s.keepFall f).pin = s.pin := rfl
@[simp] theorem keepFall_pinMode (f : Nat) : (s.keepFall f).pinMode = s.pinMode := rfl
@[simp] theorem keepFall_pinLevel (f : Nat) : (s.keepFall f).pinLevel = s.pinLevel := rfl
@[simp] theorem keepFall_now (f : Nat) : (s.keepFall f).now = s.now := rfl
@[simp] theorem keepFall_trace (f : Nat) : (s.keepFall f).trace = s.trace := rfl
@[simp] theorem keepFall_fault (f : Nat) : (s.keepFall f).fault = s.fault := rfl
@[simp] theorem keepFall_refused (f : Nat) : (s.keepFall f).refused = s.refused := rfl
@[simp] theorem keepFall_cfg (f : Nat) : (s.keepFall f).cfg = s.cfg := rfl
@[simp] theorem keepFall_mem (f : Nat) : (s.keepFall f).mem = s.mem := rfl
@[simp] theorem keepFall_inputs (f : Nat) : (s.keepFall f).inputs = s.inputs := rfl
@[simp] theorem keepFall_rdata (f : Nat) : (s.keepFall f).rdata = s.rdata := rfl
@[simp] theorem keepFall_responses (f : Nat) : (s.keepFall f).responses = s.responses := rfl

@[simp] theorem respond_locked (w : Word64) : (s.respond w).locked = s.locked := rfl
@[simp] theorem respond_currentLED (w : Word64) : (s.respond w).currentLED = s.currentLED := rfl
@[simp] theorem respond_currentBit (w : Word64) : (s.respond w).currentBit = s.currentBit := rfl
@[simp] theorem respond_currentColour (w : Word64) : (s.respond w).currentColour = s.currentColour := rfl
@[simp] theorem respond_resumeAction (w : Word64) : (s.respond w).resumeAction = s.resumeAction := rfl
@[simp] theorem respond_bufRef (w : Word64) : (s.respond w).bufRef = s.bufRef := rfl
@[simp] theorem respond_fallTicks (w : Word64) : (s.respond w).fallTicks = s.fallTicks := rfl
@[simp] theorem respond_timer (w : Word64) : (s.respond w).timer = s.timer := rfl
@[simp] theorem respond_initialised (w : Word64) : (s.respond w).initialised = s.initialised := rfl
@[simp] theorem respond_pin (w : Word64) : (s.respond w).pin = s.pin := rfl
@[simp] theorem respond_pinMode (w : Word64) : (s.respond w).pinMode = s.pinMode := rfl
@[simp] theorem respond_pinLevel (w : Word64) : (s.respond w).pinLevel = s.pinLevel := rfl
@[simp] theorem respond_now (w : Word64) : (s.respond w).now = s.now := rfl
@[simp] theorem respond_trace (w : Word64) : (s.respond w).trace = s.trace := rfl
@[simp] theorem respond_fault (w : Word64) : (s.respond w).fault = s.fault := rfl
@[simp] theorem respond_refused (w : Word64) : (s.respond w).refused = s.refused := rfl
@[simp] theorem respond_cfg (w : Word64) : (s.respond w).cfg = s.cfg := rfl
@[simp] theorem respond_mem (w : Word64) : (s.respond w).mem = s.mem := rfl
@[simp] theorem respond_inputs (w : Word64) : (s.respond w).inputs = s.inputs := rfl
@[simp] theorem respond_rdata (w : Word64) : (s.respond w).rdata = some w := rfl
@[simp] theorem respond_responses (w : Word64) : (s.respond w).responses = s.responses ++ [w] := rfl

@[simp] theorem advanceTime_locked : (s.advanceTime).locked = s.locked := rfl
@[simp] theorem advanceTime_currentLED : (s.advanceTime).currentLED = s.currentLED := rfl
@[simp] theorem advanceTime_currentBit : (s.advanceTime).currentBit = s.currentBit := rfl
@[simp] theorem advanceTime_currentColour : (s.advanceTime).currentColour = s.currentColour := rfl
@[simp] theorem advanceTime_resumeAction : (s.advanceTime).resumeAction = s.resumeAction := rfl
@[simp] theorem advanceTime_bufRef : (s.advanceTime).bufRef = s.bufRef := rfl
@[simp] theorem advanceTime_fallTicks : (s.advanceTime).fallTicks = s.fallTicks := rfl
@[simp] theorem advanceTime_timer : (s.advanceTime).timer = s.timer := rfl
@[simp] theorem advanceTime_initialised : (s.advanceTime).initialised = s.initialised := rfl
@[simp] theorem advanceTime_pin : (s.advanceTime).pin = s.pin := rfl
@[simp] theorem advanceTime_pinMode : (s.advanceTime).pinMode = s.pinMode := rfl
@[simp] theorem advanceTime_pinLevel : (s.advanceTime).pinLevel = s.pinLevel := rfl
@[simp] theorem advanceTime_now : (s.advanceTime).now = s.now + 1 := rfl
@[simp] theorem advanceTime_trace : (s.advanceTime).trace = s.trace := rfl
@[simp] theorem advanceTime_fault : (s.advanceTime).fault = s.fault := rfl
@[simp] theorem advanceTime_refused : (s.advanceTime).refused = s.refused := rfl
@[simp] theorem advanceTime_cfg : (s.advanceTime).cfg = s.cfg := rfl
@[simp] theorem advanceTime_mem : (s.advanceTime).mem = s.mem := rfl
@[simp] theorem advanceTime_inputs : (s.advanceTime).inputs = s.inputs := rfl
@[simp] theorem advanceTime_rdata : (s.advanceTime).rdata = s.rdata := rfl
@[simp] theorem advanceTime_responses : (s.advanceTime).responses = s.responses := rfl

@[simp] theorem countDown_locked : (s.countDown).locked = s.locked := rfl
@[simp] theorem countDown_currentLED : (s.countDown).currentLED = s.currentLED := rfl
@[simp] theorem countDown_currentBit : (s.countDown).currentBit = s.currentBit := rfl
@[simp] theorem countDown_currentColour : (s.countDown).currentColour = s.currentColour := rfl
@[simp] theorem countDown_resumeAction : (s.countDown).resumeAction = s.resumeAction := rfl
@[simp] theorem countDown_bufRef : (s.countDown).bufRef = s.bufRef := rfl
@[simp] theorem countDown_fallTicks : (s.countDown).fallTicks = s.fallTicks := rfl
@[simp] theorem countDown_timer : (s.countDown).timer = ⟨s.timer.armed, s.timer.count - 1, s.timer.handler⟩ := rfl
@[simp] theorem countDown_initialised : (s.countDown).initialised = s.initialised := rfl
@[simp] theorem countDown_pin : (s.countDown).pin = s.pin := rfl
@[simp] theorem countDown_pinMode : (s.countDown).pinMode = s.pinMode := rfl
@[simp] theorem countDown_pinLevel : (s.countDown).pinLevel = s.pinLevel := rfl
@[simp] theorem countDown_now : (s.countDown).now = s.now := rfl
@[simp] theorem countDown_trace : (s.countDown).trace = s.trace := rfl
@[simp] theorem countDown_fault : (s.countDown).fault = s.fault := rfl
@[simp] theorem countDown_refused : (s.countDown).refused = s.refused := rfl
@[simp] theorem countDown_cfg : (s.countDown).cfg = s.cfg := rfl
@[simp] theorem countDown_mem : (s.countDown).mem = s.mem := rfl
@[simp] theorem countDown_inputs : (s.countDown).inputs = s.inputs := rfl
@[simp] theorem countDown_rdata : (s.countDown).rdata = s.rdata := rfl
@[simp] theorem countDown_responses : (s.countDown).responses = s.responses := rfl

@[simp] theorem clearTimer_locked : (s.clearTimer).locked = s.locked := rfl
@[simp] theorem clearTimer_currentLED : (s.clearTimer).currentLED = s.currentLED := rfl
@[simp] theorem clearTimer_currentBit : (s.clearTimer).currentBit = s.currentBit := rfl
@[simp] theorem clearTimer_currentColour : (s.clearTimer).currentColour = s.currentColour := rfl
@[simp] theorem clearTimer_resumeAction : (s.clearTimer).resumeAction = s.resumeAction := rfl
@[simp] theorem clearTimer_bufRef : (s.clearTimer).bufRef = s.bufRef := rfl
@[simp] theorem clearTimer_fallTicks : (s.clearTimer).fallTicks = s.fallTicks := rfl
@[simp] theorem clearTimer_timer : (s.clearTimer).timer = ⟨false, s.timer.count, .noHandler⟩ := rfl
@[simp] theorem clearTimer_initialised : (s.clearTimer).initialised = s.initialised := rfl
@[simp] theorem clearTimer_pin : (s.clearTimer).pin = s.pin := rfl
@[simp] theorem clearTimer_pinMode : (s.clearTimer).pinMode = s.pinMode := rfl
@[simp] theorem clearTimer_pinLevel : (s.clearTimer).pinLevel = s.pinLevel := rfl
@[simp] theorem clearTimer_now : (s.clearTimer).now = s.now := rfl
@[simp] theorem clearTimer_trace : (s.clearTimer).trace = s.trace := rfl
@[simp] theorem clearTimer_fault : (s.clearTimer).fault = s.fault := rfl
@[simp] theorem clearTimer_refused : (s.clearTimer).refused = s.refused := rfl
@[simp] theorem clearTimer_cfg : (s.clearTimer).cfg = s.cfg := rfl
@[simp] theorem clearTimer_mem : (s.clearTimer).mem = s.mem := rfl
@[simp] theorem clearTimer_inputs : (s.clearTimer).inputs = s.inputs := rfl
@[simp] theorem clearTimer_rdata : (s.clearTimer).rdata = s.rdata := rfl
@[simp] theorem clearTimer_responses : (s.clearTimer).responses = s.responses := rfl

@[simp] theorem setPin_locked (l : Level) : (s.setPin l).locked = s.locked := rfl
@[simp] theorem setPin_currentLED (l : Level) : (s.setPin l).currentLED = s.currentLED := rfl
@[simp] theorem setPin_currentBit (l : Level) : (s.setPin l).currentBit = s.currentBit := rfl
@[simp] theorem setPin_currentColour (l : Level) : (s.setPin l).currentColour = s.currentColour := rfl
@[simp] theorem setPin_resumeAction (l : Level) : (s.setPin l).resumeAction = s.resumeAction := rfl
@[simp] theorem setPin_bufRef (l : Level) : (s.setPin l).bufRef = s.bufRef := rfl
@[simp] theorem setPin_fallTicks (l : Level) : (s.setPin l).fallTicks = s.fallTicks := rfl
@[simp] theorem setPin_timer (l : Level) : (s.setPin l).timer = s.timer := rfl
@[simp] theorem setPin_initialised (l : Level) : (s.setPin l).initialised = s.initialised := rfl
@[simp] theorem setPin_pin (l : Level) : (s.setPin l).pin = s.pin := rfl
@[simp] theorem setPin_pinMode (l : Level) : (s.setPin l).pinMode = s.pinMode := rfl
@[simp] theorem setPin_pinLevel (l : Level) : (s.setPin l).pinLevel = lineLevel l := rfl
@[simp] theorem setPin_now (l : Level) : (s.setPin l).now = s.now := rfl
@[simp] theorem setPin_trace (l : Level) : (s.setPin l).trace = s.trace ++ [⟨s.now, encode (.setPin l)⟩] := rfl
@[simp] theorem setPin_fault (l : Level) : (s.setPin l).fault = s.fault := rfl
@[simp] theorem setPin_refused (l : Level) : (s.setPin l).refused = s.refused := rfl
@[simp] theorem setPin_cfg (l : Level) : (s.setPin l).cfg = s.cfg := rfl
@[simp] theorem setPin_mem (l : Level) : (s.setPin l).mem = s.mem := rfl
@[simp] theorem setPin_inputs (l : Level) : (s.setPin l).inputs = s.inputs := rfl
@[simp] theorem setPin_rdata (l : Level) : (s.setPin l).rdata = s.rdata := rfl
@[simp] theorem setPin_responses (l : Level) : (s.setPin l).responses = s.responses := rfl

@[simp] theorem startTimer_locked (n : Nat) (h : Handler) : (s.startTimer n h).locked = s.locked := rfl
@[simp] theorem startTimer_currentLED (n : Nat) (h : Handler) : (s.startTimer n h).currentLED = s.currentLED := rfl
@[simp] theorem startTimer_currentBit (n : Nat) (h : Handler) : (s.startTimer n h).currentBit = s.currentBit := rfl
@[simp] theorem startTimer_currentColour (n : Nat) (h : Handler) : (s.startTimer n h).currentColour = s.currentColour := rfl
@[simp] theorem startTimer_resumeAction (n : Nat) (h : Handler) : (s.startTimer n h).resumeAction = s.resumeAction := rfl
@[simp] theorem startTimer_bufRef (n : Nat) (h : Handler) : (s.startTimer n h).bufRef = s.bufRef := rfl
@[simp] theorem startTimer_fallTicks (n : Nat) (h : Handler) : (s.startTimer n h).fallTicks = s.fallTicks := rfl
@[simp] theorem startTimer_timer (n : Nat) (h : Handler) : (s.startTimer n h).timer = ⟨true, n, h⟩ := rfl
@[simp] theorem startTimer_initialised (n : Nat) (h : Handler) : (s.startTimer n h).initialised = s.initialised := rfl
@[simp] theorem startTimer_pin (n : Nat) (h : Handler) : (s.startTimer n h).pin = s.pin := rfl
@[simp] theorem startTimer_pinMode (n : Nat) (h : Handler) : (s.startTimer n h).pinMode = s.pinMode := rfl
@[simp] theorem startTimer_pinLevel (n : Nat) (h : Handler) : (s.startTimer n h).pinLevel = s.pinLevel := rfl
@[simp] theorem startTimer_now (n : Nat) (h : Handler) : (s.startTimer n h).now = s.now := rfl
@[simp] theorem startTimer_trace (n : Nat) (h : Handler) : (s.startTimer n h).trace = s.trace ++ [⟨s.now, encode (.arm h (ticksField n))⟩] := rfl
@[simp] theorem startTimer_fault (n : Nat) (h : Handler) : (s.startTimer n h).fault = s.fault := rfl
@[simp] theorem startTimer_refused (n : Nat) (h : Handler) : (s.startTimer n h).refused = s.refused := rfl
@[simp] theorem startTimer_cfg (n : Nat) (h : Handler) : (s.startTimer n h).cfg = s.cfg := rfl
@[simp] theorem startTimer_mem (n : Nat) (h : Handler) : (s.startTimer n h).mem = s.mem := rfl
@[simp] theorem startTimer_inputs (n : Nat) (h : Handler) : (s.startTimer n h).inputs = s.inputs := rfl
@[simp] theorem startTimer_rdata (n : Nat) (h : Handler) : (s.startTimer n h).rdata = s.rdata := rfl
@[simp] theorem startTimer_responses (n : Nat) (h : Handler) : (s.startTimer n h).responses = s.responses := rfl

@[simp] theorem quiet_locked : (s.quiet).locked = s.locked := rfl
@[simp] theorem quiet_currentLED : (s.quiet).currentLED = s.currentLED := rfl
@[simp] theorem quiet_currentBit : (s.quiet).currentBit = s.currentBit := rfl
@[simp] theorem quiet_currentColour : (s.quiet).currentColour = s.currentColour := rfl
@[simp] theorem quiet_resumeAction : (s.quiet).resumeAction = s.resumeAction := rfl
@[simp] theorem quiet_bufRef : (s.quiet).bufRef = s.bufRef := rfl
@[simp] theorem quiet_fallTicks : (s.quiet).fallTicks = s.fallTicks := rfl
@[simp] theorem quiet_timer : (s.quiet).timer = s.timer := rfl
@[simp] theorem quiet_initialised : (s.quiet).initialised = s.initialised := rfl
@[simp] theorem quiet_pin : (s.quiet).pin = s.pin := rfl
@[simp] theorem quiet_pinMode : (s.quiet).pinMode = s.pinMode := rfl
@[simp] theorem quiet_pinLevel : (s.quiet).pinLevel = s.pinLevel := rfl
@[simp] theorem quiet_now : (s.quiet).now = s.now := rfl
@[simp] theorem quiet_trace : (s.quiet).trace = s.trace := rfl
@[simp] theorem quiet_fault : (s.quiet).fault = s.fault := rfl
@[simp] theorem quiet_refused : (s.quiet).refused = s.refused := rfl
@[simp] theorem quiet_cfg : (s.quiet).cfg = s.cfg := rfl
@[simp] theorem quiet_mem : (s.quiet).mem = s.mem := rfl
@[simp] theorem quiet_inputs : (s.quiet).inputs = s.inputs := rfl
@[simp] theorem quiet_rdata : (s.quiet).rdata = none := rfl
@[simp] theorem quiet_responses : (s.quiet).responses = s.responses := rfl

@[simp] theorem takeInput_locked (r : List Input) : (s.takeInput r).locked = s.locked := rfl
@[simp] theorem takeInput_currentLED (r : List Input) : (s.takeInput r).currentLED = s.currentLED := rfl
@[simp] theorem takeInput_currentBit (r : List Input) : (s.takeInput r).currentBit = s.currentBit := rfl
@[simp] theorem takeInput_currentColour (r : List Input) : (s.takeInput r).currentColour = s.currentColour := rfl
@[simp] theorem takeInput_resumeAction (r : List Input) : (s.takeInput r).resumeAction = s.resumeAction := rfl
@[simp] theorem takeInput_bufRef (r : List Input) : (s.takeInput r).bufRef = s.bufRef := rfl
@[simp] theorem takeInput_fallTicks (r : List Input) : (s.takeInput r).fallTicks = s.fallTicks := rfl
@[simp] theorem takeInput_timer (r : List Input) : (s.takeInput r).timer = s.timer := rfl
@[simp] theorem takeInput_initialised (r : List Input) : (s.takeInput r).initialised = s.initialised := rfl
@[simp] theorem takeInput_pin (r : List Input) : (s.takeInput r).pin = s.pin := rfl
@[simp] theorem takeInput_pinMode (r : List Input) : (s.takeInput r).pinMode = s.pinMode := rfl
@[simp] theorem takeInput_pinLevel (r : List Input) : (s.takeInput r).pinLevel = s.pinLevel := rfl
@[simp] theorem takeInput_now (r : List Input) : (s.takeInput r).now = s.now := rfl
@[simp] theorem takeInput_trace (r : List Input) : (s.takeInput r).trace = s.trace := rfl
@[simp] theorem takeInput_fault (r : List Input) : (s.takeInput r).fault = s.fault := rfl
@[simp] theorem takeInput_refused (r : List Input) : (s.takeInput r).refused = s.refused := rfl
@[simp] theorem takeInput_cfg (r : List Input) : (s.takeInput r).cfg = s.cfg := rfl
@[simp] theorem takeInput_mem (r : List Input) : (s.takeInput r).mem = s.mem := rfl
@[simp] theorem takeInput_inputs (r : List Input) : (s.takeInput r).inputs = r := rfl
@[simp] theorem takeInput_rdata (r : List Input) : (s.takeInput r).rdata = s.rdata := rfl
@[simp] theorem takeInput_responses (r : List Input) : (s.takeInput r).responses = s.responses := rfl

@[simp] theorem hostStore_locked (a : Operand) (v : Byte) : (s.hostStore a v).locked = s.locked := rfl
@[simp] theorem hostStore_currentLED (a : Operand) (v : Byte) : (s.hostStore a v).currentLED = s.currentLED := rfl
@[simp] theorem hostStore_currentBit (a : Operand) (v : Byte) : (s.hostStore a v).currentBit = s.currentBit := rfl
@[simp] theorem hostStore_currentColour (a : Operand) (v : Byte) : (s.hostStore a v).currentColour = s.currentColour := rfl
@[simp] theorem hostStore_resumeAction (a : Operand) (v : Byte) : (s.hostStore a v).resumeAction = s.resumeAction := rfl
@[simp] theorem hostStore_bufRef (a : Operand) (v : Byte) : (s.hostStore a v).bufRef = s.bufRef := rfl
@[simp] theorem hostStore_fallTicks (a : Operand) (v : Byte) : (s.hostStore a v).fallTicks = s.fallTicks := rfl
@[simp] theorem hostStore_timer (a : Operand) (v : Byte) : (s.hostStore a v).timer = s.timer := rfl
@[simp] theorem hostStore_initialised (a : Operand) (v : Byte) : (s.hostStore a v).initialised = s.initialised := rfl
@[simp] theorem hostStore_pin (a : Operand) (v : Byte) : (s.hostStore a v).pin = s.pin := rfl
@[simp] theorem hostStore_pinMode (a : Operand) (v : Byte) : (s.hostStore a v).pinMode = s.pinMode := rfl
@[simp] theorem hostStore_pinLevel (a : Operand) (v : Byte) : (s.hostStore a v).pinLevel = s.pinLevel := rfl
@[simp] theorem hostStore_now (a : Operand) (v : Byte) : (s.hostStore a v).now = s.now := rfl
@[simp] theorem hostStore_trace (a : Operand) (v : Byte) : (s.hostStore a v).trace = s.trace := rfl
@[simp] theorem hostStore_fault (a : Operand) (v : Byte) : (s.hostStore a v).fault = s.fault := rfl
@[simp] theorem hostStore_refused (a : Operand) (v : Byte) : (s.hostStore a v).refused = s.refused := rfl
@[simp] theorem hostStore_cfg (a : Operand) (v : Byte) : (s.hostStore a v).cfg = s.cfg := rfl
@[simp] theorem hostStore_mem (a : Operand) (v : Byte) : (s.hostStore a v).mem = Memory.write s.mem a.toNat v := rfl
@[simp] theorem hostStore_inputs (a : Operand) (v : Byte) : (s.hostStore a v).inputs = s.inputs := rfl
@[simp] theorem hostStore_rdata (a : Operand) (v : Byte) : (s.hostStore a v).rdata = s.rdata := rfl
@[simp] theorem hostStore_responses (a : Operand) (v : Byte) : (s.hostStore a v).responses = s.responses := rfl

@[simp] theorem hostWithdraw_locked (a : Operand) : (s.hostWithdraw a).locked = s.locked := rfl
@[simp] theorem hostWithdraw_currentLED (a : Operand) : (s.hostWithdraw a).currentLED = s.currentLED := rfl
@[simp] theorem hostWithdraw_currentBit (a : Operand) : (s.hostWithdraw a).currentBit = s.currentBit := rfl
@[simp] theorem hostWithdraw_currentColour (a : Operand) : (s.hostWithdraw a).currentColour = s.currentColour := rfl
@[simp] theorem hostWithdraw_resumeAction (a : Operand) : (s.hostWithdraw a).resumeAction = s.resumeAction := rfl
@[simp] theorem hostWithdraw_bufRef (a : Operand) : (s.hostWithdraw a).bufRef = s.bufRef := rfl
@[simp] theorem hostWithdraw_fallTicks (a : Operand) : (s.hostWithdraw a).fallTicks = s.fallTicks := rfl
@[simp] theorem hostWithdraw_timer (a : Operand) : (s.hostWithdraw a).timer = s.timer := rfl
@[simp] theorem hostWithdraw_initialised (a : Operand) : (s.hostWithdraw a).initialised = s.initialised := rfl
@[simp] theorem hostWithdraw_pin (a : Operand) : (s.hostWithdraw a).pin = s.pin := rfl
@[simp] theorem hostWithdraw_pinMode (a : Operand) : (s.hostWithdraw a).pinMode = s.pinMode := rfl
@[simp] theorem hostWithdraw_pinLevel (a : Operand) : (s.hostWithdraw a).pinLevel = s.pinLevel := rfl
@[simp] theorem hostWithdraw_now (a : Operand) : (s.hostWithdraw a).now = s.now := rfl
@[simp] theorem hostWithdraw_trace (a : Operand) : (s.hostWithdraw a).trace = s.trace := rfl
@[simp] theorem hostWithdraw_fault (a : Operand) : (s.hostWithdraw a).fault = s.fault := rfl
@[simp] theorem hostWithdraw_refused (a : Operand) : (s.hostWithdraw a).refused = s.refused := rfl
@[simp] theorem hostWithdraw_cfg (a : Operand) : (s.hostWithdraw a).cfg = s.cfg := rfl
@[simp] theorem hostWithdraw_mem (a : Operand) : (s.hostWithdraw a).mem = Memory.withdraw s.mem a.toNat := rfl
@[simp] theorem hostWithdraw_inputs (a : Operand) : (s.hostWithdraw a).inputs = s.inputs := rfl
@[simp] theorem hostWithdraw_rdata (a : Operand) : (s.hostWithdraw a).rdata = s.rdata := rfl
@[simp] theorem hostWithdraw_responses (a : Operand) : (s.hostWithdraw a).responses = s.responses := rfl

end Sys2Proof.Machine
end

