-- ==== Sys2Proof/Laws/Ops.lean ====
section
/-! SUPPORT. Laws/Ops.lean: what each shared operation can do, said once. -/

namespace Sys2Proof.Machine

/-! ## The pure functions -/

theorem isBitSet_of_lt (c : Colour) {i : Nat} (h : i < 24) : ∃ b, isBitSet c i = some b := by
  have : i / 8 = 0 ∨ i / 8 = 1 ∨ i / 8 = 2 := by omega
  rcases this with h0 | h1 | h2
  · simp [isBitSet, h0, Colour.byte?]
  · simp [isBitSet, h1, Colour.byte?]
  · simp [isBitSet, h2, Colour.byte?]

theorem isBitSet_of_ge (c : Colour) {i : Nat} (h : 24 ≤ i) : isBitSet c i = none := by
  have h3 : 3 ≤ i / 8 := by omega
  obtain ⟨k, hk⟩ := Nat.exists_eq_add_of_le h3
  simp [isBitSet, hk, Colour.byte?, Nat.add_comm 3 k]

theorem bitPulse_of_bit {s : State} {i : Nat} {b : Bool} (h : isBitSet s.currentColour i = some b) :
    bitPulse s i = some (riseFallFor s.cfg b) := by
  simp [bitPulse, h]

theorem bitPulse_isSome_lt {s : State} {i : Nat} {p : Nat × Nat} (h : bitPulse s i = some p) : i < 24 := by
  by_contra hge
  simp [bitPulse, isBitSet_of_ge s.currentColour (Nat.le_of_not_lt hge)] at h

theorem admitsTicks_iff (c : Config) (n : Nat) : c.admitsTicks n = true ↔ 1 ≤ n ∧ n ≤ 2 ^ c.timerBits - 1 := by
  exact decide_eq_true_iff

/-- R8 taken apart. -/
theorem wellFormed_iff (c : Config) : c.wellFormed = true ↔
    1 ≤ c.paletteSize ∧ c.palette.length = c.paletteSize ∧ c.palette[0]? = some Colour.off ∧
    c.admitsTicks c.ticks.t0h = true ∧ c.admitsTicks c.ticks.t1h = true ∧
    c.admitsTicks c.ticks.t0l = true ∧ c.admitsTicks c.ticks.t1l = true ∧
    c.admitsTicks c.ticks.tres = true ∧ c.ticks.t0h ≠ c.ticks.t1h ∧
    c.numLeds ≤ 2 ^ pAddrBits ∧ c.paletteSize ≤ 2 ^ pIndexBits := by
  simp only [Config.wellFormed, Bool.and_eq_true, decide_eq_true_eq, and_assoc]

theorem rise_admitted {c : Config} (h : c.wellFormed = true) (b : Bool) :
    c.admitsTicks (riseFallFor c b).1 = true := by
  obtain ⟨-, -, -, h0, h1, -⟩ := (wellFormed_iff c).1 h
  cases b
  · exact h0
  · exact h1

theorem fall_admitted {c : Config} (h : c.wellFormed = true) (b : Bool) :
    c.admitsTicks (riseFallFor c b).2 = true := by
  obtain ⟨-, -, -, -, -, h0, h1, -⟩ := (wellFormed_iff c).1 h
  cases b
  · exact h0
  · exact h1

theorem gap_admitted {c : Config} (h : c.wellFormed = true) : c.admitsTicks c.ticks.tres = true :=
  ((wellFormed_iff c).1 h).2.2.2.2.2.2.2.1

theorem paletteRead_isSome {s : State} (h : s.cfg.wellFormed = true) {k : Nat} (hk : k < s.cfg.paletteSize) :
    ∃ colour, paletteRead s k = some colour := by
  obtain ⟨-, hlen, -⟩ := (wellFormed_iff s.cfg).1 h
  exact ⟨s.cfg.palette[k]'(by omega), by simp [paletteRead]⟩

/-- A colour `ledColour` gives is the palette's, at an admitted index below M. -/
theorem ledColour_eq_some {s : State} {base : Operand} {k : Nat} {colour : Colour}
    (h : ledColour s base k = some colour) :
    ∃ index, memRead s (bufAddr base k) = some index ∧ index.toNat < s.cfg.paletteSize ∧
      paletteRead s index.toNat = some colour := by
  unfold ledColour at h
  split at h
  · cases h
  · next index hr =>
    split at h
    · next hlt => exact ⟨index, hr, hlt, h⟩
    · cases h

/-! ## ARM and the pulse -/

/-- ARM completes when its premises hold (R188, R189). -/
theorem arm_next {n : Nat} {h : Handler} {s : State} (ha : s.timer.armed = false)
    (hn : s.cfg.admitsTicks n = true) (hh : h ≠ .noHandler) : arm n h s = .next (s.startTimer n h) := by
  simp [arm, ha, hn, hh]

/-- All that ARM can do: load the timer, or refuse with nothing written. -/
theorem arm_cases (n : Nat) (h : Handler) (s : State) :
    (s.timer.armed = false ∧ s.cfg.admitsTicks n = true ∧ h ≠ .noHandler ∧
      arm n h s = .next (s.startTimer n h)) ∨
    ∃ why, arm n h s = refuse (.invariant why) s := by
  unfold arm
  split
  · exact .inr ⟨_, rfl⟩
  · next ha =>
    split
    · exact .inr ⟨_, rfl⟩
    · next hn =>
      split
      · exact .inr ⟨_, rfl⟩
      · next hh => exact .inl ⟨by simpa using ha, by simpa using hn, hh, rfl⟩

/-- BEGIN_PULSE completes when the rise is in range and the timer idle (R181). -/
theorem beginPulse_next {r f : Nat} {s : State} (ha : s.timer.armed = false) (hr : s.cfg.admitsTicks r = true) :
    beginPulse r f s = .next (((s.setPin .high).keepFall f).startTimer r .fall) :=
  arm_next (by simpa using ha) (by simpa using hr) (by decide)

/-- ENCODE_BIT completes on a bit of the colour with the timer idle (R151). -/
theorem encodeBit_next {s : State} {b : Bool} (hw : s.cfg.wellFormed = true) (ha : s.timer.armed = false)
    (hb : isBitSet s.currentColour s.currentBit = some b) :
    execEncodeBit s = .next
      (((s.takeBit.setPin .high).keepFall (riseFallFor s.cfg b).2).startTimer (riseFallFor s.cfg b).1 .fall) := by
  simp only [execEncodeBit, bitPulse_of_bit hb]
  exact beginPulse_next (by simpa using ha) (by simpa using rise_admitted hw b)

/-- ENTER_GAP completes with the timer idle (R155). -/
theorem enterGap_next {s : State} (hw : s.cfg.wellFormed = true) (ha : s.timer.armed = false) :
    execEnterGap s = .next ((s.setPin .low).startTimer s.cfg.ticks.tres .gapDone) :=
  arm_next (by simpa using ha) (by simpa using gap_admitted hw) (by decide)

/-- ADVANCE_LED on a valid element is ENCODE_BIT on the loaded colour (R153). -/
theorem advanceLed_load {s : State} {base : Operand} {colour : Colour} (hn : s.currentLED < s.cfg.numLeds)
    (hb : s.bufRef = some base) (hc : ledColour s base s.currentLED = some colour) :
    execAdvanceLed s = execEncodeBit (s.loadLed colour) := by
  obtain ⟨index, hr, hlt, hp⟩ := ledColour_eq_some hc
  simp [execAdvanceLed, hn, hb, hr, loadIndex, Nat.not_le.2 hlt, hp]

theorem advanceLed_gap {s : State} (hn : s.cfg.numLeds ≤ s.currentLED) :
    execAdvanceLed s = execEnterGap s := by
  simp [execAdvanceLed, Nat.not_lt.2 hn]

/-- All that ENCODE_BIT can do (R151). -/
theorem encodeBit_cases (s : State) :
    (∃ b, isBitSet s.currentColour s.currentBit = some b ∧
      execEncodeBit s = beginPulse (riseFallFor s.cfg b).1 (riseFallFor s.cfg b).2 s.takeBit) ∨
    (24 ≤ s.currentBit ∧ execEncodeBit s = refuse (.invariant .bitIndex) s) := by
  by_cases h : s.currentBit < 24
  · obtain ⟨b, hb⟩ := isBitSet_of_lt s.currentColour h
    exact .inl ⟨b, hb, by simp [execEncodeBit, bitPulse_of_bit hb]⟩
  · have hn := isBitSet_of_ge s.currentColour (Nat.le_of_not_lt h)
    exact .inr ⟨Nat.le_of_not_lt h, by simp [execEncodeBit, bitPulse, hn]⟩

/-- All that ADVANCE_LED can do (R153, R154). -/
theorem advanceLed_cases (s : State) :
    (s.cfg.numLeds ≤ s.currentLED ∧ execAdvanceLed s = execEnterGap s) ∨
    (s.currentLED < s.cfg.numLeds ∧
      ((s.bufRef = none ∧ execAdvanceLed s = refuse (.invariant .noBorrow) s) ∨
       ∃ base, s.bufRef = some base ∧
        ((memRead s (bufAddr base s.currentLED) = none ∧
            execAdvanceLed s = raise (.bufferNotAdmitted (bufAddr base s.currentLED)) s) ∨
         (∃ k, memRead s (bufAddr base s.currentLED) = some k ∧
            ((s.cfg.paletteSize ≤ k.toNat ∧ execAdvanceLed s = raise (.paletteIndex s.currentLED k.toNat) s) ∨
             (paletteRead s k.toNat = none ∧ execAdvanceLed s = refuse (.invariant .paletteHole) s) ∨
             (∃ colour, ledColour s base s.currentLED = some colour ∧
                execAdvanceLed s = execEncodeBit (s.loadLed colour))))))) := by
  by_cases hn : s.currentLED < s.cfg.numLeds
  · refine .inr ⟨hn, ?_⟩
    cases hb : s.bufRef with
    | none => exact .inl ⟨rfl, by simp [execAdvanceLed, hn, hb]⟩
    | some base =>
      refine .inr ⟨base, rfl, ?_⟩
      cases hr : memRead s (bufAddr base s.currentLED) with
      | none => exact .inl ⟨rfl, by simp [execAdvanceLed, hn, hb, hr]⟩
      | some k =>
        refine .inr ⟨k, rfl, ?_⟩
        by_cases hk : s.cfg.paletteSize ≤ k.toNat
        · exact .inl ⟨hk, by simp [execAdvanceLed, hn, hb, hr, loadIndex, hk]⟩
        · cases hp : paletteRead s k.toNat with
          | none => exact .inr (.inl ⟨rfl, by simp [execAdvanceLed, hn, hb, hr, loadIndex, hk, hp]⟩)
          | some colour =>
            have hc : ledColour s base s.currentLED = some colour := by
              simp [ledColour, hr, hp, Nat.lt_of_not_le hk]
            exact .inr (.inr ⟨colour, hc, advanceLed_load hn hb hc⟩)
  · exact .inl ⟨Nat.le_of_not_lt hn, advanceLed_gap (Nat.le_of_not_lt hn)⟩

/-! ## The clock -/

theorem tick_idle {s : State} (h : s.timer.armed = false) : execTick s = .next s.advanceTime := by
  simp [execTick, h]

theorem tick_count {s : State} (h : s.timer.armed = true) (hc : 2 ≤ s.timer.count) :
    execTick s = .next s.advanceTime.countDown := by
  have h0 : s.timer.count ≠ 0 := by omega
  have h1 : s.timer.count ≠ 1 := by omega
  simp [execTick, h, countStep, h0, h1]

theorem tick_expiry {s : State} (h : s.timer.armed = true) (hc : s.timer.count = 1) :
    execTick s = runHandler s.timer.handler s.advanceTime.countDown.clearTimer := by
  simp [execTick, h, countStep, hc]

/-- All that TICK can do to the timer (R190). -/
theorem tick_cases (s : State) :
    (s.timer.armed = false ∧ execTick s = .next s.advanceTime) ∨
    (s.timer.armed = true ∧ s.timer.count = 0 ∧ execTick s = refuse (.invariant .countZero) s.advanceTime) ∨
    (s.timer.armed = true ∧ 2 ≤ s.timer.count ∧ execTick s = .next s.advanceTime.countDown) ∨
    (s.timer.armed = true ∧ s.timer.count = 1 ∧
      execTick s = runHandler s.timer.handler s.advanceTime.countDown.clearTimer) := by
  cases h : s.timer.armed
  · exact .inl ⟨rfl, tick_idle h⟩
  · by_cases h0 : s.timer.count = 0
    · exact .inr (.inl ⟨rfl, h0, by simp [execTick, h, countStep, h0]⟩)
    · by_cases h1 : s.timer.count = 1
      · exact .inr (.inr (.inr ⟨rfl, h1, tick_expiry h h1⟩))
      · exact .inr (.inr (.inl ⟨rfl, by omega, tick_count h (by omega)⟩))

/-! ## The step -/

/-- All that a step can do (R12, R211, R213, R60, R74). -/
theorem step_cases (s : State) :
    (∃ held, s.fault = some held ∧ step s = .fault (.noStep held)) ∨
    (∃ held, s.fault = none ∧ s.refused = some held ∧ step s = .refused (.noStep held)) ∨
    (s.fault = none ∧ s.refused = none ∧
      ((s.inputs = [] ∧ step s = exec .tick s.quiet) ∨
       (∃ w rest code, s.inputs = .word w :: rest ∧ decode s.cfg w = .reject code ∧
          step s = refuse code (s.takeInput rest).quiet) ∨
       (∃ w rest i, s.inputs = .word w :: rest ∧ decode s.cfg w = .instr i ∧
          step s = exec i (s.takeInput rest).quiet) ∨
       (∃ a v rest, s.inputs = .store a v :: rest ∧ step s = .next ((s.takeInput rest).hostStore a v)) ∨
       (∃ a rest, s.inputs = .withdraw a :: rest ∧ step s = .next ((s.takeInput rest).hostWithdraw a)))) := by
  unfold step blockStep
  cases hf : s.fault with
  | some held => exact .inl ⟨held, rfl, rfl⟩
  | none =>
    refine .inr ?_
    cases hr : s.refused with
    | some held => exact .inl ⟨held, rfl, rfl, rfl⟩
    | none =>
      refine .inr ⟨rfl, rfl, ?_⟩
      simp only [enabledStep]
      cases hi : s.inputs with
      | nil => exact .inl ⟨rfl, rfl⟩
      | cons x rest =>
        refine .inr ?_
        cases x with
        | word w =>
          simp only [offerInput, offerWord, quiet_cfg, takeInput_cfg]
          cases hd : decode s.cfg w with
          | reject code => exact .inl ⟨w, rest, code, rfl, hd, rfl⟩
          | instr i => exact .inr (.inl ⟨w, rest, i, rfl, hd, rfl⟩)
        | store a v => exact .inr (.inr (.inl ⟨a, v, rest, rfl, rfl⟩))
        | withdraw a => exact .inr (.inr (.inr ⟨a, rest, rfl, rfl⟩))

/-- One tick and then the rest. -/
theorem runTicks_succ {s t : State} (h : execTick s = .next t) (k : Nat) :
    runTicks (k + 1) s = runTicks k t := by
  simp [runTicks, exec, h, andThen]

theorem runTicks_add {s t : State} {k : Nat} (h : runTicks k s = .next t) (m : Nat) :
    runTicks (k + m) s = runTicks m t := by
  induction k generalizing s with
  | zero => cases h; simp
  | succ k ih =>
    rw [show k + 1 + m = (k + m) + 1 by omega]
    simp only [runTicks] at h ⊢
    cases hx : exec .tick s with
    | next u => rw [hx] at h; simp only [andThen] at h ⊢; exact ih h
    | fault f => rw [hx] at h; cases h
    | refused f => rw [hx] at h; cases h

/-- A running timer only counts down until its last tick (R183, R190). -/
theorem runTicks_countDown {s : State} (h : s.timer.armed = true) : ∀ {j n : Nat}, s.timer.count = n → j < n →
    runTicks j s = .next { s with now := s.now + j, timer := ⟨true, n - j, s.timer.handler⟩ }
  | 0, n, hn, _ => by
    subst hn
    simp only [runTicks, Nat.add_zero, Nat.sub_zero]
    rw [← h]
  | j + 1, n, hn, hj => by
    rw [runTicks_succ (tick_count h (by omega)),
      runTicks_countDown (s := s.advanceTime.countDown) h (n := n - 1) (by simp [hn]) (by omega)]
    simp [State.advanceTime, State.countDown]
    omega

/-- The last tick of a count runs the handler it names (R190). -/
theorem runTicks_expiry {s : State} (h : s.timer.armed = true) {n : Nat} (hn : s.timer.count = n + 1) (m : Nat) :
    runTicks (n + 1 + m) s = andThen
      (runHandler s.timer.handler { s with now := s.now + (n + 1), timer := ⟨false, 0, .noHandler⟩ })
      (runTicks m) := by
  rw [Nat.add_assoc, runTicks_add (runTicks_countDown h hn (Nat.lt_succ_self n)), Nat.add_comm 1 m]
  simp only [runTicks, exec]
  rw [tick_expiry rfl (by simp)]
  simp [State.advanceTime, State.countDown, State.clearTimer]
  rfl

/-! ## The host's lines -/

@[simp] theorem Progress.andThen_next (s : State) (k : State → Progress) : (Progress.next s).andThen k = k s := rfl
@[simp] theorem Progress.andThen_polling (s : State) (k : State → Progress) :
    (Progress.polling s).andThen k = .polling s := rfl
@[simp] theorem Progress.andThen_fault (f : Fault) (k : State → Progress) : (Progress.fault f).andThen k = .fault f := rfl
@[simp] theorem Progress.andThen_refused (f : Refusal) (k : State → Progress) :
    (Progress.refused f).andThen k = .refused f := rfl

/-- Offering a word that decodes to `i`, with no fault or refusal held, runs `i` (R12, R74). -/
theorem give_instr {s : State} {w : Word64} {i : Instr} (hf : s.fault = none) (hr : s.refused = none)
    (hd : decode s.cfg w = .instr i) : give w s = exec i s.quiet := by
  have hw : wordOfBits 64 w.toNat = w := by
    unfold wordOfBits
    rw [Nat.mod_eq_of_lt w.isLt, BitVec.ofNat_toNat, BitVec.setWidth_eq]
  obtain ⟨hf', hr', hi⟩ : (s.withFetchWord 64 w.toNat).fault = none ∧ (s.withFetchWord 64 w.toNat).refused = none ∧
      (s.withFetchWord 64 w.toNat).inputs = .word w :: s.inputs := ⟨hf, hr, by simp [State.withFetchWord, hw]⟩
  have hd' : decode (s.withFetchWord 64 w.toNat).cfg w = .instr i := hd
  simp only [give, step, blockStep, hf', hr', enabledStep, hi, offerInput, offerWord, quiet_cfg, takeInput_cfg, hd']
  rfl

end Sys2Proof.Machine
end

