-- ==== Sys2Proof/Laws/PerInstr.lean ====
section
/-! SUPPORT. Laws/PerInstr.lean: statements for all instructions, one lemma per constructor. TableRow: an operation's word
matches its row of spec/opcode_table.json. -/

namespace Sys2Proof.Laws.TableRow

/-- The row's "mask". -/
def mask : Instr → Word64
  | .init _ => 0xFFFFFF0000000000
  | .write _ => 0xFFFFFF0000000000
  | .rdlock => 0xFFFFFFFFFFFFFFFF
  | .tick => 0xFFFFFFFFFFFFFFFF
  | .advanceLed => 0xFF00000000000000
  | .encodeBit => 0xFF00000000000000
  | .beginPulse => 0xFF00000000000000
  | .enterGap => 0xFF00000000000000
  | .fall => 0xFF00000000000000
  | .resume => 0xFF00000000000000
  | .gapDone => 0xFF00000000000000
  | .arm _ _ => 0xFFFFFFFC00000000
  | .setPin _ => 0xFFFFFFFFFFFFFFFE

/-- The row's "match". -/
def pattern : Instr → Word64
  | .init _ => 0x0100000000000000
  | .write _ => 0x0200000000000000
  | .rdlock => 0x0300000000000000
  | .tick => 0x0400000000000000
  | .advanceLed => 0x1000000000000000
  | .encodeBit => 0x1100000000000000
  | .beginPulse => 0x1200000000000000
  | .enterGap => 0x1300000000000000
  | .fall => 0x1400000000000000
  | .resume => 0x1500000000000000
  | .gapDone => 0x1600000000000000
  | .arm _ _ => 0x1700000000000000
  | .setPin _ => 0x1800000000000000

/-- The word of an operation matches its row. -/
def Statement (i : Instr) : Prop := encode i &&& mask i = pattern i

/-- Masking a word field by field. -/
theorem wordOf_and (a a' : BitVec 8) (b b' : BitVec 24) (c c' : Operand) :
    wordOf a b c &&& wordOf a' b' c' = wordOf (a &&& a') (b &&& b') (c &&& c') := by
  have h1 : ∀ x : Word64, x = wordOf (opcField x) (rsvField x) (opndField x) := fun x => (wordOf_fields x).symm
  rw [h1 (wordOf a b c &&& wordOf a' b' c')]
  have h2 : ∀ x y : Word64, opcField (x &&& y) = opcField x &&& opcField y := by
    intro x y; ext i hi; simp [opcField, BitVec.getElem_extractLsb']
  have h3 : ∀ x y : Word64, rsvField (x &&& y) = rsvField x &&& rsvField y := by
    intro x y; ext i hi; simp [rsvField, BitVec.getElem_extractLsb']
  have h4 : ∀ x y : Word64, opndField (x &&& y) = opndField x &&& opndField y := by
    intro x y; ext i hi; simp [opndField, BitVec.getElem_extractLsb']
  simp [h2, h3, h4]

theorem init (pin : Operand) : Statement (.init pin) := by
  change wordOf 0x01 0 pin &&& wordOf 0xFF 0xFFFF00 0 = wordOf 0x01 0 0
  simp [wordOf_and]

theorem write (addr : Operand) : Statement (.write addr) := by
  change wordOf 0x02 0 addr &&& wordOf 0xFF 0xFFFF00 0 = wordOf 0x02 0 0
  simp [wordOf_and]

theorem rdlock : Statement .rdlock := by unfold Statement; decide
theorem tick : Statement .tick := by unfold Statement; decide
theorem advanceLed : Statement .advanceLed := by unfold Statement; decide
theorem encodeBit : Statement .encodeBit := by unfold Statement; decide
theorem beginPulse : Statement .beginPulse := by unfold Statement; decide
theorem enterGap : Statement .enterGap := by unfold Statement; decide
theorem fall : Statement .fall := by unfold Statement; decide
theorem resume : Statement .resume := by unfold Statement; decide
theorem gapDone : Statement .gapDone := by unfold Statement; decide

theorem arm (handler : Handler) (ticks : Operand) : Statement (.arm handler ticks) := by
  change wordOf 0x17 (handler.code.setWidth 24) ticks &&& wordOf 0xFF 0xFFFFFC 0 = wordOf 0x17 0 0
  cases handler <;> simp [wordOf_and, Handler.code]

theorem setPin (level : Level) : Statement (.setPin level) := by
  cases level <;> (unfold Statement; decide)

end Sys2Proof.Laws.TableRow
end

