-- ==== Sys2Proof/Tests/Slice0.lean ====
section
/-! SUPPORT. Tests/Slice0.lean: tests on fixed values whose expected results stand in 95_test_vectors.md (each test names its
vector), the smoke tests of WellFormed and of R8, and for each obligation with hypotheses a witness that meets them. -/

namespace Sys2Proof.Tests

open Sys2Proof Sys2Proof.Machine

/-! ## Configuration EX and small states -/

/-- Configuration EX with N LEDs (95_test_vectors.md). -/
def ex (leds : Nat) : Config where
  numLeds := leds
  paletteSize := 3
  palette := [Colour.off, ⟨0x00, 0xFF, 0x00⟩, ⟨0xFF, 0x00, 0x00⟩]
  timing := .ticks ⟨1, 3, 4, 3, 20⟩
  prescale := 0
  timerBits := 16
  pins := (List.range 32).map (BitVec.ofNat 32)

/-- Bytes of host memory from 0x20000000 on. -/
def bytes : Nat → List Byte → List Host.Cell
  | _, [] => []
  | a, b :: rest => (a, b) :: bytes (a + 1) rest

/-- The address of the buffer in every vector. -/
abbrev bufBase : Operand := 0x20000000

/-- After reset with EX, before INIT. -/
def fresh (leds : Nat) (buffer : List Byte) : State :=
  { State.resetWith (ex leds) with mem := bytes 0x20000000 buffer }

/-- After INIT 5, idle. -/
def idle (leds : Nat) (buffer : List Byte) : State :=
  { fresh leds buffer with initialised := true, pin := some 5, pinMode := .output, pinLevel := .low }

/-- In flight, the timer cleared: how a handler or an inner operation is entered. RED is LED 0's colour. -/
def inFlight (leds : Nat) (buffer : List Byte) (bit : Nat) (action : ResumeAction) : State :=
  { idle leds buffer with
    locked := true, bufRef := some bufBase, currentLED := 1, currentBit := bit, fallTicks := 4
    currentColour := ⟨0x00, 0xFF, 0x00⟩, resumeAction := action, now := 10 }

/-- In the high phase of LED 0's first bit (after E3, before SD2). -/
def rising : State :=
  { inFlight 1 [1] 1 .continueBit with pinLevel := .high, timer := ⟨true, 1, .fall⟩ }

/-- In the low phase of LED 0's first bit (before SD4). -/
def falling (count : Nat) : State :=
  { inFlight 1 [1] 1 .continueBit with timer := ⟨true, count, .resume⟩ }

/-- At the end of the last low phase of a frame. -/
def lastBit : State :=
  { inFlight 1 [1] 24 .advanceLed with timer := ⟨true, 1, .resume⟩ }

/-- At the end of the reset gap (before E11). -/
def lastGap : State :=
  { inFlight 1 [1] 24 .advanceLed with timer := ⟨true, 1, .gapDone⟩ }

/-- The next state, if the step gives one. -/
def nextOf : Result → Option State
  | .next s => some s
  | _ => none

/-- The reason of a fault. -/
def faultOf : Result → Option FaultReason
  | .fault (.raised r _) => some r
  | _ => none

/-- The code of a refusal. -/
def refusalOf : Result → Option RefusalCode
  | .refused (.raised c _) => some c
  | _ => none

/-! ## Configurations (R8) and operands -/

theorem test_ex_wellFormed : (ex 3).wellFormed = true := by decide

/-- The largest N and M that R8 admits. -/
theorem test_largest_wellFormed :
    { ex (2 ^ 32) with paletteSize := 256, palette := List.replicate 256 Colour.off }.wellFormed = true := by
  rw [wellFormed_iff]
  refine ⟨by decide, List.length_replicate, rfl, ?_⟩
  decide

/-- One configuration for each condition of R8, which fails it. T6, T8 and T9 are three of them. -/
theorem test_config_checks_refuse :
    { ex 3 with paletteSize := 0, palette := [] }.wellFormed = false ∧
    { ex 3 with paletteSize := 2 }.wellFormed = false ∧
    { ex 3 with palette := [⟨1, 0, 0⟩, Colour.off, Colour.off] }.wellFormed = false ∧
    { ex 3 with timing := .ticks ⟨0, 3, 4, 3, 20⟩ }.wellFormed = false ∧
    { ex 3 with timing := .ticks ⟨1, 65536, 4, 3, 20⟩ }.wellFormed = false ∧
    { ex 3 with timing := .ticks ⟨1, 3, 0, 3, 20⟩ }.wellFormed = false ∧
    { ex 3 with timing := .ticks ⟨1, 3, 4, 65536, 20⟩ }.wellFormed = false ∧
    { ex 3 with timing := .ticks ⟨1, 3, 4, 3, 144000⟩ }.wellFormed = false ∧
    { ex 3 with timing := .ticks ⟨3, 3, 4, 3, 20⟩ }.wellFormed = false ∧
    (ex (2 ^ 32 + 1)).wellFormed = false := by decide

/-- R8's bound on M, alone: 257 entries, and a palette of that length. -/
theorem test_palette_too_large :
    { ex 3 with paletteSize := 257, palette := List.replicate 257 Colour.off }.wellFormed = false := by
  rw [Bool.eq_false_iff]
  intro h
  exact absurd ((wellFormed_iff _).1 h).2.2.2.2.2.2.2.2.2.2 (by decide)

/-- WellFormed smoke test: a term that each check of an operand refuses, and the nearest one it admits. -/
theorem test_operand_checks :
    (Instr.init 32).wellFormed (ex 3) = false ∧ (Instr.init 31).wellFormed (ex 3) = true ∧
    (Instr.arm .noHandler 1).wellFormed (ex 3) = false ∧ (Instr.arm .fall 1).wellFormed (ex 3) = true ∧
    (Instr.arm .fall 0).wellFormed (ex 3) = false ∧
    (Instr.arm .gapDone 65536).wellFormed (ex 3) = false ∧
    (Instr.arm .gapDone 65535).wellFormed (ex 3) = true := by decide

/-! ## Decoding -/

/-- W1 to W13, each word written out. -/
theorem test_command_words :
    decode (ex 3) 0x0100000000000005 = .instr (.init 5) ∧
    decode (ex 3) 0x0200000020000000 = .instr (.write 0x20000000) ∧
    decode (ex 3) 0x0300000000000000 = .instr .rdlock ∧
    decode (ex 3) 0x0400000000000000 = .instr .tick ∧
    decode (ex 3) 0x0000000000000000 = .reject .reservedOpcode ∧
    decode (ex 3) 0x0500000000000000 = .reject .reservedOpcode ∧
    decode (ex 3) 0x1000000000000000 = .reject .internalOpcode ∧
    decode (ex 3) 0x1800000000000001 = .reject .internalOpcode ∧
    decode (ex 3) 0x0100000100000005 = .reject .reservedBits ∧
    decode (ex 3) 0x0300000000000001 = .reject .reservedBits ∧
    decode (ex 3) 0x0100000000000020 = .reject .pinNotInPlatform ∧
    decode (ex 3) 0x1900000100000000 = .reject .reservedOpcode ∧
    decode (ex 3) 0xFF00000000000000 = .reject .reservedOpcode := by decide

/-- Each row of the opcode table, its word written out from R71, R72 and R85. -/
theorem test_table_words :
    decodeTableWord 64 0x0100000000000005 = some (.init 5) ∧
    decodeTableWord 64 0x02000000FFFFFFFF = some (.write 0xFFFFFFFF) ∧
    decodeTableWord 64 0x0300000000000000 = some .rdlock ∧
    decodeTableWord 64 0x0400000000000000 = some .tick ∧
    decodeTableWord 64 0x1000000000000000 = some .advanceLed ∧
    decodeTableWord 64 0x1100000000000000 = some .encodeBit ∧
    decodeTableWord 64 0x1200000000000000 = some .beginPulse ∧
    decodeTableWord 64 0x1300000000000000 = some .enterGap ∧
    decodeTableWord 64 0x1400000000000000 = some .fall ∧
    decodeTableWord 64 0x1500000000000000 = some .resume ∧
    decodeTableWord 64 0x1600000000000000 = some .gapDone ∧
    decodeTableWord 64 0x1700000100000001 = some (.arm .fall 1) ∧
    decodeTableWord 64 0x1700000200000004 = some (.arm .resume 4) ∧
    decodeTableWord 64 0x1700000300000014 = some (.arm .gapDone 20) ∧
    decodeTableWord 64 0x1800000000000000 = some (.setPin .low) ∧
    decodeTableWord 64 0x1800000000000001 = some (.setPin .high) ∧
    decodeTableWord 64 0x1700000400000001 = none ∧
    decodeTableWord 64 0x1800000000000002 = none := by decide

/-- The encoder writes the same words. -/
theorem test_encoded_words :
    encode (.init 5) = 0x0100000000000005 ∧ encode (.write 0x20000000) = 0x0200000020000000 ∧
    encode .tick = 0x0400000000000000 ∧ encode (.arm .gapDone 20) = 0x1700000300000014 ∧
    encode (.setPin .high) = 0x1800000000000001 := by decide

/-! ## The pure functions -/

/-- T1 to T9. -/
theorem test_ticksForPeriod :
    ticksForPeriod 8000000 350 = 3 ∧ ticksForPeriod 8000000 800 = 6 ∧ ticksForPeriod 10000000 500 = 5 ∧
    ticksForPeriod 2000000 1250 = 3 ∧ ticksForPeriod 4000000 125 = 1 ∧ ticksForPeriod 4000000 100 = 0 ∧
    ticksForPeriod 8000000 50000 = 400 ∧ ticksForPeriod 8000000 0 = 0 ∧
    ticksForPeriod 72000000 2000000 = 144000 := by decide

/-- T10, T11. -/
theorem test_riseFall : riseFallFor (ex 3) false = (1, 4) ∧ riseFallFor (ex 3) true = (3, 3) := by decide

/-- K1 to K9, and no answer from index 24 on. -/
theorem test_isBitSet :
    isBitSet ⟨0x01, 0x80, 0xA5⟩ 0 = some true ∧ isBitSet ⟨0x01, 0x80, 0xA5⟩ 1 = some false ∧
    isBitSet ⟨0x01, 0x80, 0xA5⟩ 7 = some false ∧ isBitSet ⟨0x01, 0x80, 0xA5⟩ 8 = some false ∧
    isBitSet ⟨0x01, 0x80, 0xA5⟩ 15 = some true ∧ isBitSet ⟨0x01, 0x80, 0xA5⟩ 16 = some true ∧
    isBitSet ⟨0x01, 0x80, 0xA5⟩ 17 = some false ∧ isBitSet ⟨0x01, 0x80, 0xA5⟩ 18 = some true ∧
    isBitSet ⟨0x01, 0x80, 0xA5⟩ 23 = some true ∧ isBitSet ⟨0x01, 0x80, 0xA5⟩ 24 = none := by decide

/-- K10, K11, K13. -/
theorem test_streams :
    colourBits ⟨0xFF, 0x00, 0x00⟩ = List.replicate 8 true ++ List.replicate 16 false ∧
    colourBits ⟨0x00, 0xFF, 0x00⟩ = List.replicate 8 false ++ List.replicate 8 true ++ List.replicate 8 false ∧
    colourBits ⟨0x80, 0x00, 0x01⟩ =
      List.replicate 7 false ++ [true] ++ List.replicate 8 false ++ [true] ++ List.replicate 7 false := by decide

/-- P1: GREEN takes 128 ticks, OFF 120, RED 128 (the rising edges at 128, 248 and the gap at 376). -/
theorem test_frame_ticks : frameTicks (ex 3) [⟨0xFF, 0, 0⟩, Colour.off, ⟨0, 0xFF, 0⟩] = 376 := by decide

/-- P1's buffer 02 00 01 names GREEN, OFF, RED. -/
theorem test_frame_colours :
    frameColours (idle 3 [2, 0, 1]) bufBase = [⟨0xFF, 0, 0⟩, Colour.off, ⟨0, 0xFF, 0⟩] := by decide

/-- R88: the intervals of a 1 bit, a 0 bit and the gap after them under EX, and a second frame after a long low. -/
theorem test_read_intervals :
    intervals 31 none (bitsTrace (ex 1) 0 [true, false]) = [(.high, 3), (.low, 3), (.high, 1), (.low, 24)] ∧
    readIntervals (ex 1) [(.high, 3), (.low, 3), (.high, 1), (.low, 24), (.high, 1), (.low, 4)] =
      some [.bit true, .bit false, .gap, .bit false] ∧
    splitFrames [] [.gap, .bit true, .bit false, .gap, .bit false] = [[true, false], [false]] ∧
    readIntervals (ex 1) [(.high, 2)] = none := by decide

/-- R27's codes. -/
theorem test_resume_codes :
    ResumeAction.code .continueBit = some 0 ∧ ResumeAction.code .advanceLed = some 1 := by decide

/-- Byte order of the channels: GREEN is (FF, 00, 00) on the line (R123, R124). -/
theorem test_channel_order : Colour.ofChannels pChannelOrder 0xFF 0x00 0x00 = ⟨0xFF, 0x00, 0x00⟩ := by decide

/-! ## One step of each instruction -/

/-- E2. -/
theorem test_init :
    (nextOf (exec (.init 5) (fresh 1 []))).map (fun t => (t.pin, t.pinMode, t.pinLevel, t.initialised)) =
      some (some 5, .output, .low, true) ∧
    (nextOf (exec (.init 5) (fresh 1 []))).map (fun t => (t.trace, transitions .undef t.trace)) =
      some ([⟨0, 0x1800000000000000⟩], 1) := by decide

/-- E13, E14. -/
theorem test_init_stops :
    refusalOf (exec (.init 6) (idle 1 [])) = some .reinitOtherPin ∧
    faultOf (exec (.init 5) rising) = some (.initWhileLocked 5) := by decide

/-- E3. -/
theorem test_write :
    (nextOf (exec (.write bufBase) (idle 1 [1]))).map
      (fun t => (t.locked, t.bufRef, t.currentLED, t.currentColour, t.currentBit)) =
      some (true, some 0x20000000, 1, ⟨0x00, 0xFF, 0x00⟩, 1) ∧
    (nextOf (exec (.write bufBase) (idle 1 [1]))).map
      (fun t => (t.resumeAction, t.pinLevel, t.fallTicks, t.timer)) =
      some (.continueBit, .high, 4, ⟨true, 1, .fall⟩) ∧
    (nextOf (exec (.write bufBase) (idle 1 [1]))).map (fun t => t.trace) =
      some [⟨0, 0x1800000000000001⟩, ⟨0, 0x1700000100000001⟩] := by decide

/-- E5, E4. -/
theorem test_write_stops :
    faultOf (exec (.write bufBase) (fresh 1 [1])) = some (.notInitialised 0x20000000) ∧
    nextOf (exec (.write 0) rising) = some rising := by decide

/-- E1, and the answer while in flight. -/
theorem test_rdlock :
    (nextOf (exec .rdlock (fresh 1 []))).map (·.rdata) = some (some 0) ∧
    (nextOf (exec .rdlock rising)).map (·.rdata) = some (some 1) := by decide

/-- SD5. -/
theorem test_tick_idle : nextOf (exec .tick { idle 1 [] with now := 7 }) = some { idle 1 [] with now := 8 } := by decide

/-- SD2, SD4. -/
theorem test_tick_expiry :
    (nextOf (exec .tick rising)).map (fun t => (t.now, t.timer, t.pinLevel, t.trace.head?)) =
      some (11, ⟨true, 4, .resume⟩, .low, some ⟨11, 0x1800000000000000⟩) ∧
    (nextOf (exec .tick { falling 1 with now := 14 })).map (fun t => (t.now, t.pinLevel, t.currentBit, t.trace.head?)) =
      some (15, .high, 2, some ⟨15, 0x1800000000000001⟩) := by decide

/-- E8. -/
theorem test_advanceLed : (nextOf (exec .advanceLed (inFlight 2 [1, 0] 24 .advanceLed))).map
    (fun t => (t.currentColour, t.currentLED, t.currentBit, t.pinLevel, t.timer)) =
    some (Colour.off, 2, 1, .high, ⟨true, 1, .fall⟩) := by decide

/-- E10, E16. -/
theorem test_advanceLed_faults :
    faultOf (exec .advanceLed (inFlight 2 [1, 7] 24 .advanceLed)) = some (.paletteIndex 1 7) ∧
    faultOf (exec .advanceLed { inFlight 2 [1] 24 .advanceLed with bufRef := some 0x20000FFF }) =
      some (.bufferNotAdmitted 0x20001000) := by decide

/-- E6, E7. -/
theorem test_encodeBit :
    (nextOf (exec .encodeBit (inFlight 1 [1] 22 .continueBit))).map (fun t => (t.resumeAction, t.currentBit)) =
      some (.continueBit, 23) ∧
    (nextOf (exec .encodeBit (inFlight 1 [1] 23 .continueBit))).map (fun t => (t.resumeAction, t.currentBit)) =
      some (.advanceLed, 24) := by decide

/-- SD1, with the operands of a 0 bit. -/
theorem test_beginPulse : (nextOf (beginPulse 1 4 (inFlight 1 [1] 1 .continueBit))).map
    (fun t => (t.pinLevel, t.fallTicks, t.timer, t.trace.head?)) =
    some (.high, 4, ⟨true, 1, .fall⟩, some ⟨10, 0x1800000000000001⟩) := by decide

/-- The operation by itself, on RED's stream bit 8, which is 1. -/
theorem test_beginPulse_operation : (nextOf (exec .beginPulse (inFlight 1 [1] 9 .continueBit))).map
    (fun t => (t.fallTicks, t.timer)) = some (3, ⟨true, 3, .fall⟩) := by decide

/-- E9. -/
theorem test_enterGap : (nextOf (exec .enterGap (inFlight 1 [1] 24 .advanceLed))).map
    (fun t => (t.pinLevel, t.timer, t.trace, transitions .low t.trace)) =
    some (.low, ⟨true, 20, .gapDone⟩, [⟨10, 0x1800000000000000⟩, ⟨10, 0x1700000300000014⟩], 0) := by decide

/-- SD2, the handler by itself. -/
theorem test_fall : (nextOf (exec .fall { inFlight 1 [1] 1 .continueBit with pinLevel := .high })).map
    (fun t => (t.pinLevel, t.timer)) = some (.low, ⟨true, 4, .resume⟩) := by decide

/-- E9 from RESUME, and R214's refusal. -/
theorem test_resume :
    (nextOf (exec .resume (inFlight 1 [1] 24 .advanceLed))).map (fun t => t.timer) = some ⟨true, 20, .gapDone⟩ ∧
    refusalOf (exec .resume (inFlight 1 [1] 1 .unset)) = some (.invariant .resumeUnset) := by decide

/-- E11. -/
theorem test_gapDone : (nextOf (exec .gapDone (inFlight 1 [1] 24 .advanceLed))).map
    (fun t => (t.locked, t.currentLED, t.currentBit, t.bufRef, t.trace)) = some (false, 0, 0, none, []) := by decide

/-- SD6, and a record of the reset gap. -/
theorem test_arm :
    refusalOf (exec (.arm .fall 1) rising) = some (.invariant .armWhileArmed) ∧
    (nextOf (exec (.arm .gapDone 20) (idle 1 []))).map (fun t => (t.timer, t.trace)) =
      some (⟨true, 20, .gapDone⟩, [⟨0, 0x1700000300000014⟩]) := by decide

/-- SD7. -/
theorem test_setPin : (nextOf (exec (.setPin .low) (idle 1 []))).map (fun t => (t.pinLevel, t.trace.length,
    transitions .low t.trace)) = some (.low, 1, 0) := by decide

/-- SD8. -/
theorem test_no_step_after_a_fault :
    leftBy (step { fresh 1 [] with fault := some ⟨.notInitialised 0, 0⟩ }) = none := by decide

/-- A word offered first from reset is what the first step runs. -/
theorem test_first_step :
    (nextOf (step (State.reset.withFetchWord 64 0x0300000000000000))).map (fun t => t.rdata) = some (some 0) ∧
    (nextOf (step (State.reset.withFetchWord 64 0x0400000000000000))).map (fun t => t.now) = some 1 ∧
    refusalOf (step (State.reset.withFetchWord 64 0x1600000000000000)) = some .internalOpcode := by decide

/-! ## Text -/

/-- `init 5 ; a comment`, `write 0x2f`, `tick`, an empty line, and two that are no line (R86, R87). -/
theorem test_parse :
    parseLine ['i', 'n', 'i', 't', ' ', '5', ' ', ';', 'x'] = some (some (.init 5)) ∧
    parseLine ['w', 'r', 'i', 't', 'e', ' ', '0', 'x', '2', 'f'] = some (some (.write 0x2f)) ∧
    parseLine ['t', 'i', 'c', 'k'] = some (some (.tick 1)) ∧
    parseLine [' ', ';'] = some none ∧
    parseLine ['t', 'o', 'c', 'k'] = none ∧
    parseLine ['i', 'n', 'i', 't'] = none := by decide

/-! ## Witnesses: for each obligation with hypotheses, values that meet them, each clause at a boundary -/

theorem idle_inv : BlockInv (idle 1 [1]) := by constructor <;> decide
theorem rising_inv : BlockInv rising := by constructor <;> decide
theorem falling_inv : BlockInv (falling 1) := by constructor <;> decide
theorem lastBit_inv : BlockInv lastBit := by constructor <;> decide
theorem lastGap_inv : BlockInv lastGap := by constructor <;> decide

theorem witness_o1 : (ex 3).pins = (List.range 32).map (BitVec.ofNat 32) := by rfl

theorem witness_o2 :
    (0x1000000000000000#64).toNat = 0x10 * 2 ^ 56 + 0 * 2 ^ 32 + 0 ∧
    (0x18000001000000FF#64).toNat = 0x18 * 2 ^ 56 + 1 * 2 ^ 32 + 0xFF ∧
    (0x0000000000000000#64).toNat = 0 * 2 ^ 56 + 0 * 2 ^ 32 + 0 ∧
    (0x0F00000000000000#64).toNat = 0x0F * 2 ^ 56 + 0 * 2 ^ 32 + 0 ∧
    (0x1900000100000000#64).toNat = 0x19 * 2 ^ 56 + 1 * 2 ^ 32 + 0 ∧
    (0x04FFFFFF00000000#64).toNat = 4 * 2 ^ 56 + 0xFFFFFF * 2 ^ 32 + 0 ∧
    (0x0300000000000001#64).toNat = 3 * 2 ^ 56 + 0 * 2 ^ 32 + 1 ∧
    (0x0100000000000020#64).toNat = 1 * 2 ^ 56 + 0 * 2 ^ 32 + 32 ∧ BitVec.ofNat 32 32 ∉ (ex 3).pins ∧
    (0x010000000000001F#64).toNat = 1 * 2 ^ 56 + 0 * 2 ^ 32 + 31 ∧ BitVec.ofNat 32 31 ∈ (ex 3).pins ∧
    (0x02000000FFFFFFFF#64).toNat = 2 * 2 ^ 56 + 0 * 2 ^ 32 + 0xFFFFFFFF := by decide

theorem witness_o4 :
    (Instr.init 31).isStep = true ∧ (Instr.init 31).wellFormed (ex 3) = true ∧
    (Instr.setPin .high).isStep = false := by decide

theorem witness_o5 : decode (ex 3) 0x010000000000001F = .instr (.init 31) := by decide

theorem witness_o7_o8_o9 : (ex 3).wellFormed = true ∧
    { ex 3 with timing := .ticks ⟨3, 3, 4, 3, 20⟩ }.wellFormed = false := by decide

theorem witness_o10_o11_o24 :
    (idle 1 [1]).fault = none ∧ (idle 1 [1]).refused = none ∧
    ({ idle 1 [1] with inputs := [.word 0x0400000000000000, .word 0] } : State).inputs =
      .word 0x0400000000000000 :: [.word 0] ∧
    decode (idle 1 [1]).cfg 0x0400000000000000 = .instr .tick ∧
    decode (idle 1 [1]).cfg 0 = .reject .reservedOpcode ∧
    (nextOf (step { idle 1 [1] with inputs := [.word 0x0400000000000000] })).isSome = true ∧
    ((idle 1 [1]).inputs = [] ∧ (nextOf (step (idle 1 [1]))).isSome = true) ∧
    (nextOf (step { idle 1 [1] with inputs := [.word 0x0300000000000000] })).isSome = true := by decide

theorem witness_o12 : (idle 1 [1]).fault = none ∧ (idle 1 [1]).refused = none ∧ (idle 1 [1]).inputs = [] := by decide

theorem witness_o13_o14 :
    (idle 1 [1]).fault = none ∧ (idle 1 [1]).refused = none ∧ Memory.wf (idle 1 [1]).mem = true ∧
    ({ idle 1 [1] with inputs := [.store 0xFFFFFFFF 7] } : State).inputs = .store 0xFFFFFFFF 7 :: [] ∧
    ({ idle 1 [1] with inputs := [.withdraw bufBase] } : State).inputs = .withdraw bufBase :: [] := by decide

/-- The store and the withdrawal of those inputs, seen by a read. -/
theorem test_host_memory :
    (nextOf (step { idle 1 [1] with inputs := [.store 0xFFFFFFFF 7] })).map (fun t => memRead t 0xFFFFFFFF) =
      some (some 7) ∧
    (nextOf (step { idle 1 [1] with inputs := [.withdraw bufBase] })).map (fun t => memRead t 0x20000000) =
      some none := by decide

theorem witness_o15 :
    ({ fresh 1 [] with fault := some ⟨.notInitialised 0, 0⟩ } : State).fault = some ⟨.notInitialised 0, 0⟩ ∧
    (fresh 1 []).fault = none ∧
    ({ fresh 1 [] with refused := some .reservedBits } : State).refused = some .reservedBits := by decide

theorem witness_o16 :
    (∃ f, exec (.write bufBase) (fresh 1 [1]) = .fault f) ∧
    (∃ f, exec (.init 6) (idle 1 []) = .refused f) ∧ (idle 1 []).fault = none :=
  ⟨⟨_, rfl⟩, ⟨_, rfl⟩, rfl⟩

theorem witness_o17 :
    rising.locked = true ∧
    ((idle 1 []).locked = false ∧ (idle 1 []).initialised = true ∧ (idle 1 []).pin ≠ some 6) ∧
    ((fresh 1 []).locked = false ∧ (fresh 1 []).initialised = false) ∧
    (idle 1 []).pin = some 5 := by decide

theorem witness_o18 : BlockInv (idle 1 [1]) ∧ (idle 1 [1]).locked = false ∧ (idle 1 [1]).initialised = true ∧
    (idle 1 [1]).pin = some 5 := ⟨idle_inv, by decide⟩

theorem witness_o19 : (fresh 1 [1]).initialised = false := by decide

theorem witness_o20 : BlockInv rising ∧ rising.locked = true := ⟨rising_inv, by decide⟩

theorem witness_o21_o22 :
    (idle 1 [1]).cfg.wellFormed = true ∧ (idle 1 [1]).initialised = true ∧ (idle 1 [1]).locked = false ∧
    (idle 1 [1]).timer.armed = false ∧ (rising.initialised = true ∧ rising.locked = true) ∧
    (fresh 1 [1]).initialised = false ∧
    (1 ≤ (idle 1 [1]).cfg.numLeds ∧ ledColour (idle 1 [1]) bufBase 0 = some ⟨0x00, 0xFF, 0x00⟩) ∧
    ((idle 0 []).cfg.wellFormed = true ∧ (idle 0 []).cfg.numLeds = 0) := by decide

/-- The clauses of ADVANCE_LED meet at currentLED = N, at the admitted byte and at the index M. -/
theorem witness_o25_o27 :
    (inFlight 1 [1] 24 .advanceLed).cfg.numLeds ≤ (inFlight 1 [1] 24 .advanceLed).currentLED ∧
    (inFlight 2 [1] 24 .advanceLed).currentLED < (inFlight 2 [1] 24 .advanceLed).cfg.numLeds ∧
    (inFlight 2 [1] 24 .advanceLed).bufRef = some bufBase ∧
    memRead (inFlight 2 [1] 24 .advanceLed) (bufBase.toNat + 1) = none ∧
    memRead (inFlight 2 [1, 3] 24 .advanceLed) (bufBase.toNat + 1) = some 3 ∧
    (inFlight 2 [1, 3] 24 .advanceLed).cfg.paletteSize ≤ (3 : Byte).toNat ∧
    memRead (inFlight 2 [1, 2] 24 .advanceLed) (bufBase.toNat + 1) = some 2 ∧
    (2 : Byte).toNat < (inFlight 2 [1, 2] 24 .advanceLed).cfg.paletteSize ∧
    (inFlight 2 [1, 2] 24 .advanceLed).cfg.palette[(2 : Byte).toNat]? = some ⟨0xFF, 0x00, 0x00⟩ ∧
    (inFlight 2 [1, 2] 24 .advanceLed).cfg.wellFormed = true ∧
    (inFlight 2 [1, 2] 24 .advanceLed).timer.armed = false ∧
    ledColour (inFlight 2 [1, 2] 24 .advanceLed) bufBase 1 = some ⟨0xFF, 0x00, 0x00⟩ := by decide

theorem witness_o26 :
    Memory.wf (idle 1 [1]).mem = true ∧ 2 ^ 32 ≤ 0x100000000 ∧ memRead (idle 1 [1]) 0x20000000 = some 1 := by decide

theorem witness_o28 :
    (inFlight 1 [1] 0 .unset).cfg.wellFormed = true ∧ (inFlight 1 [1] 0 .unset).timer.armed = false ∧
    (inFlight 1 [1] 0 .unset).currentBit < 24 ∧ (inFlight 1 [1] 23 .continueBit).currentBit < 24 := by decide

theorem witness_o29 :
    (idle 1 []).timer.armed = false ∧ 1 ≤ 1 ∧ 1 ≤ 2 ^ (idle 1 []).cfg.timerBits - 1 ∧
    65535 ≤ 2 ^ (idle 1 []).cfg.timerBits - 1 := by decide

theorem witness_o30 :
    (inFlight 1 [1] 1 .unset).cfg.wellFormed = true ∧ (inFlight 1 [1] 1 .unset).timer.armed = false ∧
    1 ≤ (inFlight 1 [1] 1 .unset).currentBit ∧ (inFlight 1 [1] 24 .unset).currentBit ≤ 24 := by decide

theorem witness_o31 :
    (inFlight 1 [1] 1 .continueBit).timer.armed = false ∧ 1 ≤ (inFlight 1 [1] 1 .continueBit).fallTicks ∧
    (inFlight 1 [1] 1 .continueBit).fallTicks ≤ 2 ^ (inFlight 1 [1] 1 .continueBit).cfg.timerBits - 1 := by decide

theorem witness_o32_o33 :
    (inFlight 1 [1] 1 .continueBit).resumeAction = .continueBit ∧ (inFlight 1 [1] 23 .continueBit).currentBit < 24 ∧
    (inFlight 1 [1] 24 .advanceLed).resumeAction = .advanceLed ∧
    (inFlight 1 [1] 24 .advanceLed).cfg.numLeds ≤ (inFlight 1 [1] 24 .advanceLed).currentLED ∧
    (inFlight 2 [1, 2] 24 .advanceLed).currentLED < (inFlight 2 [1, 2] 24 .advanceLed).cfg.numLeds ∧
    (inFlight 2 [1, 2] 24 .advanceLed).bufRef = some bufBase ∧
    ledColour (inFlight 2 [1, 2] 24 .advanceLed) bufBase 1 = some ⟨0xFF, 0x00, 0x00⟩ ∧
    (inFlight 1 [1] 1 .unset).resumeAction = .unset ∧
    (inFlight 1 [1] 1 .continueBit).cfg.wellFormed = true ∧
    (inFlight 1 [1] 1 .continueBit).timer.armed = false := by decide

theorem witness_o34 :
    (idle 1 []).timer.armed = false ∧ 1 ≤ (idle 1 []).cfg.ticks.tres ∧
    (idle 1 []).cfg.ticks.tres ≤ 2 ^ (idle 1 []).cfg.timerBits - 1 := by decide

/-- The clauses of ARM meet at the counts 1 and 65535. -/
theorem witness_o37_o38 :
    rising.timer.armed = true ∧ (idle 1 []).timer.armed = false ∧
    1 ≤ (1 : Operand).toNat ∧ (65535 : Operand).toNat ≤ 2 ^ (idle 1 []).cfg.timerBits - 1 ∧
    (0 : Operand).toNat = 0 ∧ 2 ^ (idle 1 []).cfg.timerBits - 1 < (65536 : Operand).toNat := by decide

theorem witness_o39 :
    (idle 1 []).timer.armed = false ∧
    ((falling 2).timer.armed = true ∧ 2 ≤ (falling 2).timer.count) ∧
    (rising.timer.armed = true ∧ rising.timer.count = 1 ∧ rising.timer.handler = .fall) ∧
    ((falling 1).timer.count = 1 ∧ (falling 1).timer.handler = .resume) ∧
    (lastGap.timer.count = 1 ∧ lastGap.timer.handler = .gapDone) := by decide

theorem witness_o40 :
    (BlockInv rising ∧ ∃ t, exec .tick rising = .next t) ∧
    (BlockInv (falling 1) ∧ ∃ t, exec .tick (falling 1) = .next t) ∧
    (BlockInv lastGap ∧ ∃ t, exec .tick lastGap = .next t) :=
  ⟨⟨rising_inv, _, rfl⟩, ⟨falling_inv, _, rfl⟩, ⟨lastGap_inv, _, rfl⟩⟩

theorem witness_o42 :
    (∃ d, ({ ex 3 with timing := .datasheet d } : Config).timing = .datasheet d ∧
      ticksForPeriod d.clockHz d.nsT0H = 3) ∧
    (ex 3).timing = .ticks ⟨1, 3, 4, 3, 20⟩ :=
  ⟨⟨⟨8000000, 350, 800, 700, 600, 50000⟩, rfl, by decide⟩, rfl⟩

theorem witness_o43 : 24 ≤ (inFlight 1 [1] 24 .advanceLed).currentBit ∧ 23 < 24 := by decide

theorem witness_o44 : (idle 1 [0]).cfg.wellFormed = true ∧ memRead (idle 1 [0]) (bufBase.toNat + 0) = some 0x00 := by decide

/-- One step from a state of each control state. -/
theorem witness_o46_o48_o50_o53_o54 :
    (BlockInv (idle 1 [1]) ∧ ∃ t, step (idle 1 [1]) = .next t) ∧
    (BlockInv rising ∧ ∃ t, step rising = .next t) ∧
    (BlockInv (falling 1) ∧ ∃ t, step (falling 1) = .next t) ∧
    (BlockInv lastBit ∧ ∃ t, step lastBit = .next t) ∧
    (BlockInv lastGap ∧ ∃ t, step lastGap = .next t) ∧
    (∃ t, leftBy (step (idle 1 [1])) = some t) ∧ Memory.wf (idle 1 [1]).mem = true :=
  ⟨⟨idle_inv, _, rfl⟩, ⟨rising_inv, _, rfl⟩, ⟨falling_inv, _, rfl⟩, ⟨lastBit_inv, _, rfl⟩, ⟨lastGap_inv, _, rfl⟩,
    ⟨_, rfl⟩, by decide⟩

/-- An operation that completes, one that faults and one that is refused. -/
theorem witness_o49 :
    (∃ t, leftBy (exec (.write bufBase) (idle 1 [1])) = some t) ∧
    (∃ t, leftBy (exec (.write bufBase) (fresh 1 [1])) = some t) ∧
    (∃ t, leftBy (exec (.init 6) (idle 1 [])) = some t) :=
  ⟨⟨_, rfl⟩, ⟨_, rfl⟩, ⟨_, rfl⟩⟩

theorem witness_o51 :
    (∃ t, exec (.write bufBase) (idle 1 [1]) = .next t ∧ (idle 1 [1]).locked = false ∧ t.locked = true) ∧
    (∃ t, exec .gapDone lastGap = .next t ∧ lastGap.locked = true ∧ t.locked = false) ∧
    (∃ t, exec .tick lastGap = .next t ∧ t.locked = false) :=
  ⟨⟨_, rfl, rfl, rfl⟩, ⟨_, rfl, rfl, rfl⟩, ⟨_, rfl, rfl⟩⟩

/-- Two memories that agree on the element read and on no other byte. -/
theorem witness_o52 : ∀ x, readAddress .advanceLed { inFlight 2 [1, 2] 24 .advanceLed with mem := [(0x20000001, 2)] } = some x →
    memRead { inFlight 2 [1, 2] 24 .advanceLed with mem := bytes 0x20000000 [0, 2, 9] } x =
      memRead { inFlight 2 [1, 2] 24 .advanceLed with mem := [(0x20000001, 2)] } x := by
  intro x hx
  have h : x = 0x20000001 := by
    simpa [readAddress, State.bufPort, bufAddr, inFlight] using hx.symm
  subst h
  decide

theorem witness_o55 :
    (BlockInv rising ∧ rising.timer = ⟨true, (riseFallFor rising.cfg false).1, .fall⟩ ∧
      rising.fallTicks = (riseFallFor rising.cfg false).2) ∧
    0 < (riseFallFor rising.cfg false).1 ∧
    ((riseFallFor rising.cfg false).1 ≤ 1 ∧ 4 < bitTicks rising.cfg false) :=
  ⟨⟨rising_inv, by decide⟩, by decide⟩

/-- The same at a one-bit: RED's stream bit 8. -/
theorem witness_o55_one :
    BlockInv { inFlight 1 [1] 9 .continueBit with pinLevel := .high, timer := ⟨true, 3, .fall⟩, fallTicks := 3 } ∧
    riseFallFor (ex 1) true = (3, 3) := ⟨by constructor <;> decide, by decide⟩

theorem witness_o56 :
    BlockInv (idle 1 [1]) ∧ (idle 1 [1]).initialised = true ∧ (idle 1 [1]).locked = false ∧
    BufferValid (idle 1 [1]) bufBase := by
  refine ⟨idle_inv, by decide, by decide, fun k hk => ?_⟩
  have : k = 0 := by
    have : k < 1 := hk
    omega
  subst this
  decide

theorem witness_o57 :
    (ex 3).wellFormed = true ∧ (ex 0).wellFormed = true ∧
    max (ex 3).ticks.t0l (ex 3).ticks.t1l < min (ex 3).ticks.t0l (ex 3).ticks.t1l + (ex 3).ticks.tres ∧
    0 + frameTicks (ex 3) [⟨0xFF, 0, 0⟩] + (ex 3).ticks.tres ≤ 148 ∧
    ([⟨0xFF, 0, 0⟩] : List Colour) ≠ [] := by decide

theorem witness_o58_o59_o60 :
    BlockInv (idle 1 [1]) ∧ (∃ t, waitReady 1 (idle 1 [1]) = .next t) ∧
    BlockInv lastGap ∧ (∃ t, waitReady 2 lastGap = .next t) ∧ (∃ t, waitReady 1 lastGap = .polling t) :=
  ⟨idle_inv, ⟨_, rfl⟩, lastGap_inv, ⟨_, rfl⟩, ⟨_, rfl⟩⟩

end Sys2Proof.Tests
end

section
/-! PROOFS. The scope's own rules (00_scope.md): which configurations power-on admits (R8), and what one
step runs (R12). -/

namespace Sys2Proof.Machine

/-! ## The configuration check (R8) -/

/-- R8's one condition on all five counts of the timing table is `wellFormed`'s five checks. -/
theorem forall_tickCounts_iff (c : Config) :
    (∀ n, n ∈ [c.ticks.t0h, c.ticks.t1h, c.ticks.t0l, c.ticks.t1l, c.ticks.tres] →
        1 ≤ n ∧ n ≤ 2 ^ c.timerBits - 1) ↔
      c.admitsTicks c.ticks.t0h = true ∧ c.admitsTicks c.ticks.t1h = true ∧
      c.admitsTicks c.ticks.t0l = true ∧ c.admitsTicks c.ticks.t1l = true ∧
      c.admitsTicks c.ticks.tres = true := by
  simp [admitsTicks_iff]

theorem powerOn_of_malformed {c : Config} (h : c.wellFormed = false) :
    powerOn c = refuse .configInvalid (State.resetWith c) :=
  if_neg (Bool.eq_false_iff.mp h)

/-! ## The step of a running block (R12) -/

/-- With no fault and no refusal held, the step is the one that the inputs enable (R211, R213). -/
theorem step_of_running {s : State} (hf : s.fault = none) (hr : s.refused = none) : step s = enabledStep s := by
  simp only [step, blockStep, hf, hr]

/-- An offered word is decoded on the state with the word taken and RDATA empty. -/
theorem step_word {s : State} {w : Word64} {rest : List Input} (hf : s.fault = none) (hr : s.refused = none)
    (hi : s.inputs = .word w :: rest) : step s = offerWord w (s.takeInput rest).quiet := by
  simp only [step_of_running hf hr, enabledStep, hi, offerInput]

theorem offerWord_instr {s : State} {w : Word64} {i : Instr} (hd : decode s.cfg w = .instr i) :
    offerWord w s = exec i s := by
  simp only [offerWord, hd]

end Sys2Proof.Machine

open Sys2Proof Sys2Proof.Machine

/-- Settles O7: R8's conditions are those of `wellFormed_iff`, with the five tick counts gathered in one list. -/
theorem configurationWellFormedExactly : Obligations.ConfigurationWellFormedExactly := by
  intro c
  refine ⟨?_, fun h => ⟨_, powerOn_of_malformed h⟩⟩
  rw [wellFormed_iff, forall_tickCounts_iff]
  simp only [Colour.off, pAddrBits, pIndexBits, and_assoc]

/-- Settles O10: the word is taken and decoded under the same configuration, so its operation runs. -/
theorem stepRunsTheDecodedInstruction : Obligations.StepRunsTheDecodedInstruction := by
  intro s w rest i hf hr hi hd
  calc step s
    _ = offerWord w (s.takeInput rest).quiet := step_word hf hr hi
    _ = exec i (s.takeInput rest).quiet := offerWord_instr (by rwa [quiet_cfg, takeInput_cfg])

end

section
/-! PROOFS. The state's own rules (10_state.md): the invariants of R38 at reset and over every step, what writes the
lock (R40), and how the trace grows (R37). -/

namespace Sys2Proof.Machine

/-! ## All that INIT, WRITE and RESUME can do -/

theorem init_cases (pin : Operand) (s : State) :
    (s.locked = true ∧ execInit pin s = raise (.initWhileLocked pin) s) ∨
    (s.locked = false ∧ s.initialised = true ∧ s.pin ≠ some pin ∧ execInit pin s = refuse .reinitOtherPin s) ∨
    (s.locked = false ∧ (s.initialised = true → s.pin = some pin) ∧
      execInit pin s = .next ((s.bindPin pin).setPin .low).markInitialised) := by
  cases hl : s.locked
  · by_cases hp : s.initialised = true ∧ s.pin ≠ some pin
    · exact .inr (.inl ⟨rfl, hp.1, hp.2, by simp [execInit, hl, hp]⟩)
    · exact .inr (.inr ⟨rfl, by simpa using hp, by simp only [execInit, hl, hp, if_false, Bool.false_eq_true]⟩)
  · exact .inl ⟨rfl, by simp [execInit, hl]⟩

theorem write_cases (addr : Operand) (s : State) :
    (s.initialised = false ∧ execWrite addr s = raise (.notInitialised addr) s) ∨
    (s.initialised = true ∧ s.locked = true ∧ execWrite addr s = .next s) ∨
    (s.initialised = true ∧ s.locked = false ∧ execWrite addr s = execAdvanceLed (s.lock.beginFrame addr)) := by
  cases hi : s.initialised
  · exact .inl ⟨rfl, by simp [execWrite, hi]⟩
  · cases hl : s.locked
    · exact .inr (.inr ⟨rfl, rfl, by simp [execWrite, hi, hl]⟩)
    · exact .inr (.inl ⟨rfl, rfl, by simp [execWrite, hi, hl]⟩)

theorem resume_cases (s : State) :
    (s.resumeAction = .unset ∧ execResume s = refuse (.invariant .resumeUnset) s) ∨
    (s.resumeAction = .continueBit ∧ execResume s = execEncodeBit s) ∨
    (s.resumeAction = .advanceLed ∧ execResume s = execAdvanceLed s) := by
  cases ha : s.resumeAction
  · exact .inl ⟨rfl, by simp only [execResume, ha]⟩
  · exact .inr (.inl ⟨rfl, by simp only [execResume, ha]⟩)
  · exact .inr (.inr ⟨rfl, by simp only [execResume, ha]⟩)

/-! ## The invariants inside a step (R38)

Between steps the timer of a running frame is armed; inside a step it is idle, from its expiry or the accepted WRITE
until ARM. `Running` is what the invariants say of the frame there, and `Awaits h` is what they add for the handler `h`
that is armed next. -/

/-- What R38 says of a frame in flight whatever the timer does. -/
structure Running (s : State) : Prop where
  noFault : s.fault = none
  noRefusal : s.refused = none
  config : s.cfg.wellFormed = true
  memory : Memory.wf s.mem = true
  bound : s.pin.isSome = true ∧ s.pinMode = .output
  locked : s.locked = true
  initialised : s.initialised = true
  borrow : s.bufRef.isSome = true

/-- I3 and I4 while the pulse of an LED's bit is on the line. -/
structure Sending (s : State) : Prop where
  led : 1 ≤ s.currentLED ∧ s.currentLED ≤ s.cfg.numLeds
  bit : 1 ≤ s.currentBit ∧ s.currentBit ≤ 24
  more : s.currentBit < 24 → s.resumeAction = .continueBit
  last : s.currentBit = 24 → s.resumeAction = .advanceLed

/-- I6: the indices once all LEDs are sent. -/
def AllSent (s : State) : Prop :=
  s.currentLED = s.cfg.numLeds ∧ (1 ≤ s.cfg.numLeds → s.currentBit = 24) ∧ (s.cfg.numLeds = 0 → s.currentBit = 0)

/-- I4, I5, I6 and I9 for the handler that the timer names. -/
def Awaits (s : State) : Handler → Prop
  | .noHandler => False
  | .fall => Sending s ∧ s.pinLevel = .high ∧
      (isBitSet s.currentColour (s.currentBit - 1)).map (fun b => (riseFallFor s.cfg b).2) = some s.fallTicks
  | .resume => Sending s ∧ s.pinLevel = .low
  | .gapDone => AllSent s ∧ s.pinLevel = .low

theorem AllSent.index_bounds {s : State} (h : AllSent s) :
    s.currentLED ≤ s.cfg.numLeds ∧ s.currentBit ≤ 24 := by
  obtain ⟨hled, hmany, hnone⟩ := h
  omega

theorem Awaits.index_bounds {s : State} : ∀ {h : Handler}, Awaits s h →
    s.currentLED ≤ s.cfg.numLeds ∧ s.currentBit ≤ 24
  | .fall, ⟨hs, _⟩ => ⟨hs.led.2, hs.bit.2⟩
  | .resume, ⟨hs, _⟩ => ⟨hs.led.2, hs.bit.2⟩
  | .gapDone, ⟨hg, _⟩ => hg.index_bounds

theorem Awaits.ne_noHandler {s : State} {h : Handler} (hw : Awaits s h) : h ≠ .noHandler := by
  rintro rfl
  exact hw

theorem Sending.i4 {s : State} (h : Sending s) : 1 ≤ s.currentLED ∧ 1 ≤ s.currentBit ∧
    (s.currentBit < 24 → s.resumeAction = .continueBit) ∧ (s.currentBit = 24 → s.resumeAction = .advanceLed) :=
  ⟨h.led.1, h.bit.1, h.more, h.last⟩

/-- A state between steps with the timer armed is in a frame. -/
theorem BlockInv.running {s : State} (h : BlockInv s) (ha : s.timer.armed = true) : Running s := by
  have hl : s.locked = true := h.i1.trans ha
  obtain ⟨hi, hb⟩ := h.i8 hl
  exact ⟨h.noFault, h.noRefusal, h.config, h.memory, h.bound hi, hl, hi, hb⟩

theorem BlockInv.sending {s : State} (h : BlockInv s) (hh : s.timer.handler = .fall ∨ s.timer.handler = .resume) :
    Sending s := by
  obtain ⟨hled, hbit, hmore, hlast⟩ := h.i4 hh
  exact ⟨⟨hled, h.i3.1⟩, ⟨hbit, h.i3.2⟩, hmore, hlast⟩

/-- The invariants of an armed state are those of the handler that its timer names. -/
theorem BlockInv.awaits {s : State} (h : BlockInv s) (ha : s.timer.armed = true) : Awaits s s.timer.handler := by
  cases hh : s.timer.handler with
  | noHandler => exact absurd (h.i1Handler.1 hh) (by simp [ha])
  | fall => exact ⟨h.sending (.inl hh), h.i5Fall hh, h.i9 hh⟩
  | resume => exact ⟨h.sending (.inr hh), h.i5Low (.inl hh)⟩
  | gapDone => exact ⟨h.i6 hh, h.i5Low (.inr hh)⟩

/-- A frame in flight whose indices, line and colour are right for `h` meets the invariants once `h` is armed. -/
theorem Running.startTimer {s : State} {n : Nat} {h : Handler} (hr : Running s) (hn : s.cfg.admitsTicks n = true)
    (hw : Awaits s h) : BlockInv (s.startTimer n h) where
  noFault := hr.noFault
  noRefusal := hr.noRefusal
  config := hr.config
  memory := hr.memory
  bound _ := hr.bound
  i1 := hr.locked
  i1Handler := by simpa using hw.ne_noHandler
  i2 hl := by simp [hr.locked] at hl
  i3 := hw.index_bounds
  i4
    | .inl (hh : h = .fall) => by subst hh; exact hw.1.i4
    | .inr (hh : h = .resume) => by subst hh; exact hw.1.i4
  i5Fall (hh : h = .fall) := by subst hh; exact hw.2.1
  i5Low
    | .inl (hh : h = .resume) => by subst hh; exact hw.2
    | .inr (hh : h = .gapDone) => by subst hh; exact hw.2
  i5Idle _ hl := by simp [hr.locked] at hl
  i6 (hh : h = .gapDone) := by subst hh; exact hw.1
  i7 _ := (admitsTicks_iff s.cfg n).1 hn
  i8 _ := ⟨hr.initialised, hr.borrow⟩
  i9 (hh : h = .fall) := by subst hh; exact hw.2.2

/-! ## The operations inside a step keep the invariants -/

theorem arm_keeps_inv {n : Nat} {h : Handler} {s t : State} (hw : Awaits s h) (hr : Running s)
    (ht : arm n h s = .next t) : BlockInv t := by
  obtain ⟨-, hn, -, heq⟩ | ⟨why, heq⟩ := arm_cases n h s
  · cases heq.symm.trans ht
    exact hr.startTimer hn hw
  · cases heq.symm.trans ht

/-- FALL (R182) puts the line LOW for the bit that is being sent. -/
theorem fall_keeps_inv {s t : State} (hr : Running s) (hs : Sending s) (ht : execFall s = .next t) : BlockInv t :=
  have hw : Awaits (s.setPin .low) .resume := ⟨{ hs with }, rfl⟩
  arm_keeps_inv hw { hr with } ht

theorem enterGap_keeps_inv {s t : State} (hr : Running s) (hg : AllSent s) (ht : execEnterGap s = .next t) :
    BlockInv t :=
  have hw : Awaits (s.setPin .low) .gapDone := ⟨hg, rfl⟩
  arm_keeps_inv hw { hr with } ht

/-- ENCODE_BIT's choice of the resume action is I4's for the next bit index (R151). -/
theorem takeBit_sending {s : State} (hled : 1 ≤ s.currentLED ∧ s.currentLED ≤ s.cfg.numLeds)
    (hbit : s.currentBit < 24) : Sending s.takeBit where
  led := hled
  bit := by simp only [takeBit_currentBit]; omega
  more h := if_pos h
  last h := if_neg (by simp only [takeBit_currentBit] at h; omega)

theorem encodeBit_keeps_inv {s t : State} (hr : Running s) (hled : 1 ≤ s.currentLED ∧ s.currentLED ≤ s.cfg.numLeds)
    (ht : execEncodeBit s = .next t) : BlockInv t := by
  obtain ⟨b, hb, heq⟩ | ⟨-, heq⟩ := encodeBit_cases s
  · have hbit : s.currentBit < 24 := bitPulse_isSome_lt (bitPulse_of_bit hb)
    have hw : Awaits ((s.takeBit.setPin .high).keepFall (riseFallFor s.cfg b).2) .fall :=
      ⟨{ takeBit_sending hled hbit with }, rfl, congrArg (Option.map _) hb⟩
    exact arm_keeps_inv hw { hr with } (heq.symm.trans ht)
  · cases heq.symm.trans ht

/-- ADVANCE_LED: the gap needs I6's bit index, the next LED needs nothing of it. -/
theorem advanceLed_keeps_inv {s t : State} (hr : Running s) (hle : s.currentLED ≤ s.cfg.numLeds)
    (hg : s.currentLED = s.cfg.numLeds → AllSent s) (ht : execAdvanceLed s = .next t) : BlockInv t := by
  obtain ⟨hge, heq⟩ | ⟨hlt, ⟨-, heq⟩ | ⟨base, -, ⟨-, heq⟩ | ⟨k, -, ⟨-, heq⟩ | ⟨-, heq⟩ | ⟨colour, -, heq⟩⟩⟩⟩ :=
    advanceLed_cases s
  · exact enterGap_keeps_inv hr (hg (by omega)) (heq.symm.trans ht)
  · cases heq.symm.trans ht
  · cases heq.symm.trans ht
  · cases heq.symm.trans ht
  · cases heq.symm.trans ht
  · exact encodeBit_keeps_inv (s := s.loadLed colour) { hr with } ⟨Nat.succ_pos _, hlt⟩ (heq.symm.trans ht)

/-- RESUME (R156): ContinueBit stays in the LED, and AdvanceLED is named only at bit index 24 (I4). -/
theorem resume_keeps_inv {s t : State} (hr : Running s) (hs : Sending s) (ht : execResume s = .next t) :
    BlockInv t := by
  obtain ⟨-, heq⟩ | ⟨-, heq⟩ | ⟨ha, heq⟩ := resume_cases s
  · cases heq.symm.trans ht
  · exact encodeBit_keeps_inv hr hs.led (heq.symm.trans ht)
  · have hbit : s.currentBit = 24 := by
      by_contra hne
      have hlt : s.currentBit < 24 := lt_of_le_of_ne hs.bit.2 hne
      simp [hs.more hlt] at ha
    have hpos : 1 ≤ s.cfg.numLeds := hs.led.1.trans hs.led.2
    exact advanceLed_keeps_inv hr hs.led.2 (fun hn => ⟨hn, fun _ => hbit, by omega⟩) (heq.symm.trans ht)

/-- GAPDONE (R160) with the timer cleared leaves the block idle, the line LOW. -/
theorem gapDone_keeps_inv {s t : State} (hr : Running s) (hlow : s.pinLevel = .low) (harmed : s.timer.armed = false)
    (hhandler : s.timer.handler = .noHandler) (ht : execGapDone s = .next t) : BlockInv t := by
  cases ht
  exact {
    noFault := hr.noFault
    noRefusal := hr.noRefusal
    config := hr.config
    memory := hr.memory
    bound := fun _ => hr.bound
    i1 := harmed.symm
    i1Handler := by simp [harmed, hhandler]
    i2 := fun _ => ⟨rfl, rfl, rfl⟩
    i3 := by simp
    i4 := by simp [hhandler]
    i5Fall := by simp [hhandler]
    i5Low := fun _ => hlow
    i5Idle := fun _ _ => hlow
    i6 := by simp [hhandler]
    i7 := by simp [harmed]
    i8 := by simp
    i9 := by simp [hhandler] }

/-- The handler that the timer named runs on the state with the timer cleared (R190, R217). -/
theorem runHandler_keeps_inv {s t : State} {h : Handler} (hr : Running s) (hw : Awaits s h)
    (ht : runHandler h s.countDown.clearTimer = .next t) : BlockInv t := by
  have hr' : Running s.countDown.clearTimer := { hr with }
  cases h with
  | noHandler => exact hw.elim
  | fall => exact fall_keeps_inv hr' { hw.1 with } ht
  | resume => exact resume_keeps_inv hr' { hw.1 with } ht
  | gapDone => exact gapDone_keeps_inv hr' hw.2 rfl rfl ht

/-! ## The steps keep the invariants -/

theorem tick_keeps_inv {s t : State} (h : BlockInv s) (ht : execTick s = .next t) : BlockInv t := by
  obtain ⟨-, heq⟩ | ⟨-, -, heq⟩ | ⟨-, hc, heq⟩ | ⟨ha, -, heq⟩ := tick_cases s
  · cases heq.symm.trans ht
    exact { h with }
  · cases heq.symm.trans ht
  · cases heq.symm.trans ht
    refine { h with i7 := fun ha => ?_ }
    have := h.i7 ha
    simp only [countDown_timer, countDown_cfg, advanceTime_timer, advanceTime_cfg]
    omega
  · have h' : BlockInv s.advanceTime := { h with }
    exact runHandler_keeps_inv (h'.running ha) (h'.awaits ha) (heq.symm.trans ht)

theorem init_keeps_inv {pin : Operand} {s t : State} (h : BlockInv s) (ht : execInit pin s = .next t) :
    BlockInv t := by
  obtain ⟨-, heq⟩ | ⟨-, -, -, heq⟩ | ⟨hl, -, heq⟩ := init_cases pin s
  · cases heq.symm.trans ht
  · cases heq.symm.trans ht
  · cases heq.symm.trans ht
    have hh : s.timer.handler = .noHandler := h.i1Handler.2 (h.i1.symm.trans hl)
    exact { h with
      bound := fun _ => ⟨rfl, rfl⟩
      i5Fall := by simp [hh]
      i5Low := fun _ => rfl
      i5Idle := fun _ _ => rfl
      i8 := by simp [hl] }

theorem write_keeps_inv {addr : Operand} {s t : State} (h : BlockInv s) (ht : execWrite addr s = .next t) :
    BlockInv t := by
  obtain ⟨-, heq⟩ | ⟨-, -, heq⟩ | ⟨hi, -, heq⟩ := write_cases addr s
  · cases heq.symm.trans ht
  · cases heq.symm.trans ht
    exact h
  · have hr : Running (s.lock.beginFrame addr) :=
      ⟨h.noFault, h.noRefusal, h.config, h.memory, h.bound hi, rfl, hi, rfl⟩
    have hsent : (s.lock.beginFrame addr).currentLED = s.cfg.numLeds → AllSent (s.lock.beginFrame addr) :=
      fun (h0 : 0 = s.cfg.numLeds) => ⟨h0, fun (hpos : 1 ≤ s.cfg.numLeds) => by omega, fun _ => rfl⟩
    exact advanceLed_keeps_inv hr (Nat.zero_le _) hsent (heq.symm.trans ht)

theorem decode_instr_isStep {c : Config} {w : Word64} {i : Instr} (h : decode c w = .instr i) : i.isStep = true := by
  simp only [decode] at h
  split_ifs at h <;> cases h <;> rfl

theorem exec_keeps_inv {i : Instr} {s t : State} (hi : i.isStep = true) (h : BlockInv s) (ht : exec i s = .next t) :
    BlockInv t := by
  cases i with
  | init pin => exact init_keeps_inv h ht
  | write addr => exact write_keeps_inv h ht
  | rdlock => cases ht; exact { h with }
  | tick => exact tick_keeps_inv h ht
  | _ => cases hi

theorem step_keeps_inv {s t : State} (h : BlockInv s) (ht : step s = .next t) : BlockInv t := by
  obtain ⟨held, -, heq⟩ | ⟨held, -, -, heq⟩ | ⟨-, -, ⟨-, heq⟩ | ⟨w, rest, code, -, -, heq⟩ | ⟨w, rest, i, -, hd, heq⟩ |
    ⟨a, v, rest, -, heq⟩ | ⟨a, rest, -, heq⟩⟩ := step_cases s
  · cases heq.symm.trans ht
  · cases heq.symm.trans ht
  · exact exec_keeps_inv (s := s.quiet) rfl { h with } (heq.symm.trans ht)
  · cases heq.symm.trans ht
  · exact exec_keeps_inv (s := (s.takeInput rest).quiet) (decode_instr_isStep hd) { h with } (heq.symm.trans ht)
  · cases heq.symm.trans ht
    exact { h with memory := Memory.wf_write a v h.memory }
  · cases heq.symm.trans ht
    exact { h with memory := Memory.wf_withdraw a h.memory }

/-! ## What the operations leave as it was

Of all operations only an accepted WRITE and GAPDONE write the lock and the borrow, and only TICK the time; everything
else they do keeps these and the block's surroundings, and can only add records of the present time to the trace. -/

/-- `t` has the lock, the borrow, the time and the surroundings of `s`, and a trace that extends that of `s` by records
of this time. -/
structure Keeps (s t : State) : Prop where
  locked : t.locked = s.locked
  bufRef : t.bufRef = s.bufRef
  now : t.now = s.now
  cfg : t.cfg = s.cfg
  mem : t.mem = s.mem
  inputs : t.inputs = s.inputs
  trace : ∃ added, t.trace = s.trace ++ added ∧ ∀ r, r ∈ added → r.time = s.now

theorem Keeps.refl (s : State) : Keeps s s := ⟨rfl, rfl, rfl, rfl, rfl, rfl, [], by simp, by simp⟩

theorem Keeps.record {s t : State} (k : Keeps s t) (w : Word64) :
    Keeps s { t with trace := t.trace ++ [⟨t.now, w⟩] } where
  locked := k.locked
  bufRef := k.bufRef
  now := k.now
  cfg := k.cfg
  mem := k.mem
  inputs := k.inputs
  trace := by
    obtain ⟨added, happ, htime⟩ := k.trace
    refine ⟨added ++ [⟨t.now, w⟩], by simp [happ], fun r hr => ?_⟩
    obtain hold | rfl := by simpa using hr
    · exact htime r hold
    · exact k.now

theorem Keeps.setPin {s t : State} (k : Keeps s t) (level : Level) : Keeps s (t.setPin level) :=
  { k.record (encode (.setPin level)) with }

theorem Keeps.startTimer {s t : State} (k : Keeps s t) (n : Nat) (h : Handler) : Keeps s (t.startTimer n h) :=
  { k.record (encode (.arm h (ticksField n))) with }

/-- Whatever state the outcome leaves, a stop included, it keeps what `Keeps` names. -/
def Leaves (s : State) (r : Result) : Prop := ∀ t, leftBy r = some t → Keeps s t

theorem Keeps.leaves_next {s t : State} (k : Keeps s t) : Leaves s (.next t) := by
  rintro _ ⟨⟩
  exact k

theorem Keeps.leaves_raise {s t : State} (k : Keeps s t) (reason : FaultReason) : Leaves s (raise reason t) := by
  rintro _ ⟨⟩
  exact { k with }

theorem Keeps.leaves_refuse {s t : State} (k : Keeps s t) (code : RefusalCode) : Leaves s (refuse code t) := by
  rintro _ ⟨⟩
  exact { k with }

theorem Keeps.leaves_arm {s t : State} (k : Keeps s t) (n : Nat) (h : Handler) : Leaves s (arm n h t) := by
  obtain ⟨-, -, -, heq⟩ | ⟨why, heq⟩ := arm_cases n h t
  · rw [heq]; exact (k.startTimer n h).leaves_next
  · rw [heq]; exact k.leaves_refuse _

theorem Keeps.leaves_beginPulse {s t : State} (k : Keeps s t) (r f : Nat) : Leaves s (beginPulse r f t) :=
  Keeps.leaves_arm (t := (t.setPin .high).keepFall f) { k.setPin .high with } r .fall

theorem Keeps.leaves_execBeginPulse {s t : State} (k : Keeps s t) : Leaves s (execBeginPulse t) := by
  unfold execBeginPulse
  split
  · exact k.leaves_refuse _
  · exact k.leaves_beginPulse _ _

theorem Keeps.leaves_fall {s t : State} (k : Keeps s t) : Leaves s (execFall t) := (k.setPin .low).leaves_arm _ _

theorem Keeps.leaves_enterGap {s t : State} (k : Keeps s t) : Leaves s (execEnterGap t) :=
  (k.setPin .low).leaves_arm _ _

theorem Keeps.leaves_encodeBit {s t : State} (k : Keeps s t) : Leaves s (execEncodeBit t) := by
  obtain ⟨b, -, heq⟩ | ⟨-, heq⟩ := encodeBit_cases t
  · rw [heq]; exact Keeps.leaves_beginPulse (t := t.takeBit) { k with } _ _
  · rw [heq]; exact k.leaves_refuse _

theorem Keeps.leaves_advanceLed {s t : State} (k : Keeps s t) : Leaves s (execAdvanceLed t) := by
  obtain ⟨-, heq⟩ | ⟨-, ⟨-, heq⟩ | ⟨base, -, ⟨-, heq⟩ | ⟨index, -, ⟨-, heq⟩ | ⟨-, heq⟩ | ⟨colour, -, heq⟩⟩⟩⟩ :=
    advanceLed_cases t
  · rw [heq]; exact k.leaves_enterGap
  · rw [heq]; exact k.leaves_refuse _
  · rw [heq]; exact k.leaves_raise _
  · rw [heq]; exact k.leaves_raise _
  · rw [heq]; exact k.leaves_refuse _
  · rw [heq]; exact Keeps.leaves_encodeBit (t := t.loadLed colour) { k with }

theorem Keeps.leaves_resume {s t : State} (k : Keeps s t) : Leaves s (execResume t) := by
  obtain ⟨-, heq⟩ | ⟨-, heq⟩ | ⟨-, heq⟩ := resume_cases t
  · rw [heq]; exact k.leaves_refuse _
  · rw [heq]; exact k.leaves_encodeBit
  · rw [heq]; exact k.leaves_advanceLed

theorem Keeps.leaves_init {s t : State} (k : Keeps s t) (pin : Operand) : Leaves s (execInit pin t) := by
  obtain ⟨-, heq⟩ | ⟨-, -, -, heq⟩ | ⟨-, -, heq⟩ := init_cases pin t
  · rw [heq]; exact k.leaves_raise _
  · rw [heq]; exact k.leaves_refuse _
  · have hbound : Keeps s (t.bindPin pin) := { k with }
    rw [heq]
    exact Keeps.leaves_next { hbound.setPin .low with }

theorem write_left_cases {addr : Operand} {s t : State} (h : leftBy (execWrite addr s) = some t) :
    Keeps s t ∨ (s.initialised = true ∧ Keeps (s.lock.beginFrame addr) t) := by
  have k := Keeps.refl s
  obtain ⟨-, heq⟩ | ⟨-, -, heq⟩ | ⟨hi, -, heq⟩ := write_cases addr s
  all_goals rw [heq] at h
  · exact .inl (k.leaves_raise _ t h)
  · exact .inl (k.leaves_next t h)
  · exact .inr ⟨hi, (Keeps.refl _).leaves_advanceLed t h⟩

theorem tick_left_cases {s t : State} (h : leftBy (execTick s) = some t) :
    Keeps s.advanceTime t ∨
    (s.timer.armed = true ∧ s.timer.count = 1 ∧ s.timer.handler = .gapDone ∧
      Keeps s.advanceTime.unlock.endFrame t) := by
  have k := Keeps.refl s.advanceTime
  have kcount : Keeps s.advanceTime s.advanceTime.countDown := { k with }
  have kclear : Keeps s.advanceTime s.advanceTime.countDown.clearTimer := { k with }
  obtain ⟨-, heq⟩ | ⟨-, -, heq⟩ | ⟨-, -, heq⟩ | ⟨ha, hc, heq⟩ := tick_cases s
  all_goals rw [heq] at h
  · exact .inl (k.leaves_next t h)
  · exact .inl (k.leaves_refuse _ t h)
  · exact .inl (kcount.leaves_next t h)
  · cases hh : s.timer.handler
    all_goals rw [hh] at h
    case noHandler => exact .inl (kclear.leaves_refuse _ t h)
    case fall => exact .inl (kclear.leaves_fall t h)
    case resume => exact .inl (kclear.leaves_resume t h)
    case gapDone =>
      have kgap : Keeps s.advanceTime.unlock.endFrame s.advanceTime.countDown.clearTimer.unlock.endFrame :=
        { Keeps.refl s.advanceTime.unlock.endFrame with }
      exact .inr ⟨ha, hc, rfl, kgap.leaves_next t h⟩

/-- The lock, the borrow and the time after an operation, by the operation: WRITE may begin a frame and GAPDONE end it,
TICK advances the time and may run GAPDONE, and nothing else touches any of the three. -/
theorem exec_left_cases {i : Instr} {s t : State} (h : leftBy (exec i s) = some t) :
    Keeps s t ∨
    (∃ addr, i = .write addr ∧ s.initialised = true ∧ Keeps (s.lock.beginFrame addr) t) ∨
    (i = .gapDone ∧ Keeps s.unlock.endFrame t) ∨
    (i = .tick ∧ (Keeps s.advanceTime t ∨
      (s.timer.armed = true ∧ s.timer.count = 1 ∧ s.timer.handler = .gapDone ∧
        Keeps s.advanceTime.unlock.endFrame t))) := by
  have k := Keeps.refl s
  cases i with
  | init pin => exact .inl (k.leaves_init pin t h)
  | write addr => exact (write_left_cases h).imp_right fun hw => .inl ⟨addr, rfl, hw⟩
  | rdlock => exact .inl (Keeps.leaves_next (t := s.respond (lockedWord s)) { k with } t h)
  | tick => exact .inr (.inr (.inr ⟨rfl, tick_left_cases h⟩))
  | advanceLed => exact .inl (k.leaves_advanceLed t h)
  | encodeBit => exact .inl (k.leaves_encodeBit t h)
  | beginPulse => exact .inl (k.leaves_execBeginPulse t h)
  | enterGap => exact .inl (k.leaves_enterGap t h)
  | fall => exact .inl (k.leaves_fall t h)
  | resume => exact .inl (k.leaves_resume t h)
  | gapDone => exact .inr (.inr (.inl ⟨rfl, (Keeps.refl _).leaves_next t h⟩))
  | arm handler ticks => exact .inl (k.leaves_arm _ _ t h)
  | setPin level => exact .inl ((k.setPin level).leaves_next t h)

/-- `t` extends the trace of `s` by records of its own time, which is that of `s` or one tick later (R37, R85). -/
def ExtendsTrace (s t : State) : Prop :=
  ∃ added, t.trace = s.trace ++ added ∧ (∀ r, r ∈ added → r.time = t.now) ∧ s.now ≤ t.now ∧ t.now ≤ s.now + 1

theorem Keeps.extendsTrace {s u t : State} (k : Keeps u t) (htrace : u.trace = s.trace) (hle : s.now ≤ u.now)
    (hlt : u.now ≤ s.now + 1) : ExtendsTrace s t := by
  obtain ⟨added, happ, htime⟩ := k.trace
  refine ⟨added, htrace ▸ happ, fun r hr => (htime r hr).trans k.now.symm, ?_, ?_⟩
  · rwa [k.now]
  · rwa [k.now]

theorem exec_extendsTrace {i : Instr} {s t : State} (h : leftBy (exec i s) = some t) : ExtendsTrace s t := by
  obtain k | ⟨addr, -, -, k⟩ | ⟨-, k⟩ | ⟨-, k | ⟨-, -, -, k⟩⟩ := exec_left_cases h
  · exact k.extendsTrace rfl le_rfl (Nat.le_succ _)
  · exact k.extendsTrace rfl le_rfl (Nat.le_succ _)
  · exact k.extendsTrace rfl le_rfl (Nat.le_succ _)
  · exact k.extendsTrace rfl (Nat.le_succ _) le_rfl
  · exact k.extendsTrace rfl (Nat.le_succ _) le_rfl

/-- The host's own steps, and a refused word, leave the trace and the time as they were. -/
theorem extendsTrace_of_eq {s t : State} (htrace : t.trace = s.trace) (hnow : t.now = s.now) : ExtendsTrace s t :=
  ⟨[], by simpa using htrace, by simp, by omega, by omega⟩

theorem step_extendsTrace {s t : State} (h : leftBy (step s) = some t) : ExtendsTrace s t := by
  obtain ⟨held, -, heq⟩ | ⟨held, -, -, heq⟩ | ⟨-, -, ⟨-, heq⟩ | ⟨w, rest, code, -, -, heq⟩ | ⟨w, rest, i, -, -, heq⟩ |
    ⟨a, v, rest, -, heq⟩ | ⟨a, rest, -, heq⟩⟩ := step_cases s
  all_goals rw [heq] at h
  · cases h
  · cases h
  · exact exec_extendsTrace (s := s.quiet) h
  · cases h; exact extendsTrace_of_eq rfl rfl
  · exact exec_extendsTrace (s := (s.takeInput rest).quiet) h
  · cases h; exact extendsTrace_of_eq rfl rfl
  · cases h; exact extendsTrace_of_eq rfl rfl

/-! ## Reset (R41) -/

theorem reset_inv {c : Config} (hc : c.wellFormed = true) : BlockInv (State.resetWith c) where
  noFault := rfl
  noRefusal := rfl
  config := hc
  memory := rfl
  bound := nofun
  i1 := rfl
  i1Handler := ⟨fun _ => rfl, fun _ => rfl⟩
  i2 _ := ⟨rfl, rfl, rfl⟩
  i3 := ⟨Nat.zero_le _, Nat.zero_le _⟩
  i4 := nofun
  i5Fall := nofun
  i5Low := nofun
  i5Idle := nofun
  i6 := nofun
  i7 := nofun
  i8 := nofun
  i9 := nofun

end Sys2Proof.Machine

open Sys2Proof Sys2Proof.Machine

/-- Settles O6: `State.resetWith` is R41's table, its colour palette entry 0. -/
theorem resetLeavesTheTableOfValues : Obligations.ResetLeavesTheTableOfValues := by
  intro c
  exact ⟨_, rfl, by simp [State.resetWith, Colour.off]⟩

/-- Settles O9: at reset the block is idle, and the platform's configuration is well-formed. -/
theorem resetMeetsTheInvariants : Obligations.ResetMeetsTheInvariants :=
  ⟨fun _ => reset_inv, reset_inv Config.platform_wellFormed⟩

/-- Settles O46: a step that runs a frame arms the timer for a handler that awaits the very state it left, or ends the
frame with the block idle. -/
theorem everyStepKeepsTheInvariants : Obligations.EveryStepKeepsTheInvariants :=
  fun _ _ => step_keeps_inv

/-- Settles O51: of the operations, by what each leaves of the lock and the borrow. -/
theorem onlyWriteLocksAndOnlyGapDoneUnlocks : Obligations.OnlyWriteLocksAndOnlyGapDoneUnlocks := by
  intro i s t ht
  obtain k | ⟨addr, rfl, hi, k⟩ | ⟨rfl, k⟩ | ⟨rfl, k | ⟨ha, hc, hh, k⟩⟩ := exec_left_cases (congrArg leftBy ht)
  · simp +contextual [k.locked]
  · have hl : t.locked = true := k.locked
    exact ⟨fun _ _ => ⟨addr, rfl, hi, k.bufRef⟩, by simp [hl]⟩
  · have hl : t.locked = false := k.locked
    exact ⟨by simp [hl], fun _ _ => .inl rfl⟩
  · simp +contextual [k.locked]
  · have hl : t.locked = false := k.locked
    exact ⟨by simp [hl], fun _ _ => .inr ⟨rfl, ha, hc, hh⟩⟩

/-- Settles O53: the writes of a step keep the time they see, and extend the trace by records of it. -/
theorem traceOnlyGrowsWithTheCurrentTime : Obligations.TraceOnlyGrowsWithTheCurrentTime :=
  fun _ _ => step_extendsTrace

end

section
/-! PROOFS. Host memory's own rules (20_memory.md): what a read returns (R51), what the host's stores change (R60, R62),
and how far the block depends on memory (R56, R59). -/

namespace Sys2Proof.Machine

/-! ## A read of the canonical form (R51) -/

theorem Memory.bounds_of_mem {m : List Host.Cell} {low x : Nat} {b : Byte} (hm : Memory.wfFrom low m = true)
    (h : (x, b) ∈ m) : low ≤ x ∧ x < 2 ^ pAddrBits := by
  induction m generalizing low with
  | nil => cases h
  | cons c rest ih =>
    obtain ⟨a, v⟩ := c
    simp only [Memory.wfFrom, Bool.and_eq_true, decide_eq_true_eq] at hm
    obtain ⟨⟨hlow, ha⟩, hrest⟩ := hm
    cases h with
    | head => exact ⟨hlow, ha⟩
    | tail _ h =>
      have hx := ih hrest h
      exact ⟨by omega, hx.2⟩

/-- The addresses rise strictly, so no later pair has the address of the first one. -/
theorem Memory.read_eq_some_iff {m : List Host.Cell} {low x : Nat} {b : Byte} (hm : Memory.wfFrom low m = true) :
    Memory.read m x = some b ↔ (x, b) ∈ m := by
  induction m generalizing low with
  | nil => simp [Memory.read]
  | cons c rest ih =>
    obtain ⟨a, v⟩ := c
    simp only [Memory.wfFrom, Bool.and_eq_true, decide_eq_true_eq] at hm
    simp only [Memory.read]
    split
    · next hx =>
      subst hx
      have hlater : (a, b) ∉ rest := fun h => absurd (Memory.bounds_of_mem hm.2 h).1 (by omega)
      simp [hlater, eq_comm]
    · next hx => simp [ih hm.2, Ne.symm hx]

theorem memRead_of_lt {s : State} {x : Nat} (h : x < 2 ^ pAddrBits) : memRead s x = Memory.read s.mem x := if_pos h

theorem memRead_of_ge {s : State} {x : Nat} (h : 2 ^ pAddrBits ≤ x) : memRead s x = none := if_neg (Nat.not_lt.2 h)

theorem memRead_eq_some_iff {s : State} {x : Nat} {b : Byte} (hm : Memory.wf s.mem = true) :
    memRead s x = some b ↔ (x, b) ∈ s.mem := by
  by_cases hx : x < 2 ^ pAddrBits
  · rw [memRead_of_lt hx, Memory.read_eq_some_iff hm]
  · have hunlisted : (x, b) ∉ s.mem := fun h => hx (Memory.bounds_of_mem hm h).2
    simp [memRead_of_ge (Nat.le_of_not_lt hx), hunlisted]

/-- A read depends on the memory alone. -/
theorem memRead_congr {s t : State} (h : t.mem = s.mem) (x : Nat) : memRead t x = memRead s x := by
  simp only [memRead, h]

/-! ## The host's own steps (R60, R62) -/

theorem memRead_hostStore (s : State) (addr : Operand) (v : Byte) (x : Nat) :
    memRead (s.hostStore addr v) x = if x = addr.toNat then some v else memRead s x := by
  split
  · next h =>
    subst h
    rw [memRead_of_lt addr.isLt]
    exact Memory.read_write_same s.mem addr.toNat v
  · next h => simp only [memRead, hostStore_mem, Memory.read_write_other s.mem v h]

theorem step_store {s : State} {addr : Operand} {v : Byte} {rest : List Input} (hf : s.fault = none)
    (hr : s.refused = none) (hi : s.inputs = .store addr v :: rest) :
    step s = .next ((s.takeInput rest).hostStore addr v) := by
  simp only [step_of_running hf hr, enabledStep, hi, offerInput]

/-! ## What the operations leave of memory (R56) -/

/-- No operation writes the block's surroundings, whatever it does to the lock, the borrow and the time. -/
theorem exec_keeps_surroundings {i : Instr} {s t : State} (h : leftBy (exec i s) = some t) :
    t.mem = s.mem ∧ t.cfg = s.cfg ∧ t.inputs = s.inputs := by
  obtain k | ⟨addr, -, -, k⟩ | ⟨-, k⟩ | ⟨-, k | ⟨-, -, -, k⟩⟩ := exec_left_cases h
  all_goals exact ⟨k.mem, k.cfg, k.inputs⟩

theorem exec_next_mem {i : Instr} {s t : State} (h : exec i s = .next t) : t.mem = s.mem :=
  (exec_keeps_surroundings (congrArg leftBy h)).1

theorem step_keeps_memory_wf {s t : State} (hm : Memory.wf s.mem = true) (ht : step s = .next t) :
    Memory.wf t.mem = true := by
  obtain ⟨held, -, heq⟩ | ⟨held, -, -, heq⟩ | ⟨-, -, ⟨-, heq⟩ | ⟨w, rest, code, -, -, heq⟩ | ⟨w, rest, i, -, -, heq⟩ |
    ⟨a, v, rest, -, heq⟩ | ⟨a, rest, -, heq⟩⟩ := step_cases s
  all_goals rw [heq] at ht
  · cases ht
  · cases ht
  · rwa [exec_next_mem ht]
  · cases ht
  · rwa [exec_next_mem ht]
  · cases ht; exact Memory.wf_write a v hm
  · cases ht; exact Memory.wf_withdraw a hm

/-! ## What the operations see of memory (R59)

Every operation commutes with the replacement of host memory: those without a read always, those that may run
ADVANCE_LED where both memories read alike at the current element. -/

/-- `s` with its host memory replaced, as `mapMemory` replaces it in a result. -/
def State.withMem (m : List Host.Cell) (s : State) : State := { s with mem := m }

/-- Both memories read alike at the one element that ADVANCE_LED may read in `s`. -/
def ReadsAlike (m : List Host.Cell) (s : State) : Prop :=
  ∀ x, s.bufPort = some x → memRead (s.withMem m) x = memRead s x

section
variable (m : List Host.Cell) (s : State)

theorem arm_withMem (n : Nat) (h : Handler) : arm n h (s.withMem m) = mapMemory m (arm n h s) := by
  simp only [arm, apply_ite (mapMemory m)]
  rfl

theorem beginPulse_withMem (r f : Nat) : beginPulse r f (s.withMem m) = mapMemory m (beginPulse r f s) :=
  arm_withMem m ((s.setPin .high).keepFall f) r .fall

theorem execBeginPulse_withMem : execBeginPulse (s.withMem m) = mapMemory m (execBeginPulse s) := by
  have hp : pulseOperands (s.withMem m) = pulseOperands s := rfl
  rw [execBeginPulse, execBeginPulse, hp]
  cases pulseOperands s with
  | none => rfl
  | some p => exact beginPulse_withMem m s p.1 p.2

theorem fall_withMem : execFall (s.withMem m) = mapMemory m (execFall s) :=
  arm_withMem m (s.setPin .low) s.fallTicks .resume

theorem enterGap_withMem : execEnterGap (s.withMem m) = mapMemory m (execEnterGap s) :=
  arm_withMem m (s.setPin .low) s.cfg.ticks.tres .gapDone

theorem encodeBit_withMem : execEncodeBit (s.withMem m) = mapMemory m (execEncodeBit s) := by
  have hp : bitPulse (s.withMem m) (s.withMem m).currentBit = bitPulse s s.currentBit := rfl
  rw [execEncodeBit, execEncodeBit, hp]
  cases bitPulse s s.currentBit with
  | none => rfl
  | some p => exact beginPulse_withMem m s.takeBit p.1 p.2

theorem loadIndex_withMem (k : Byte) : loadIndex k (s.withMem m) = mapMemory m (loadIndex k s) := by
  have hp : paletteRead (s.withMem m) k.toNat = paletteRead s k.toNat := rfl
  rw [loadIndex, loadIndex, hp, apply_ite (mapMemory m)]
  cases paletteRead s k.toNat with
  | none => rfl
  | some colour => exact congrArg (ite _ _) (encodeBit_withMem m (s.loadLed colour))

theorem init_withMem (pin : Operand) : execInit pin (s.withMem m) = mapMemory m (execInit pin s) := by
  simp only [execInit, apply_ite (mapMemory m)]
  rfl

end

section
variable {m : List Host.Cell} {s : State}

/-- The one read of the block (R59): the element that BUF_ADDR shows. -/
theorem advanceLed_withMem (h : ReadsAlike m s) :
    execAdvanceLed (s.withMem m) = mapMemory m (execAdvanceLed s) := by
  obtain hge | hlt := le_or_gt s.cfg.numLeds s.currentLED
  · rw [advanceLed_gap hge, advanceLed_gap (s := s.withMem m) hge]
    exact enterGap_withMem m s
  · have hlt' : (s.withMem m).currentLED < (s.withMem m).cfg.numLeds := hlt
    rw [execAdvanceLed, execAdvanceLed, if_pos hlt, if_pos hlt']
    cases hb : s.bufRef with
    | none =>
      have hb' : (s.withMem m).bufRef = none := hb
      rw [hb']
      rfl
    | some base =>
      have hb' : (s.withMem m).bufRef = some base := hb
      have hread : memRead (s.withMem m) (bufAddr base (s.withMem m).currentLED) =
          memRead s (bufAddr base s.currentLED) :=
        h (bufAddr base s.currentLED) (by simp [State.bufPort, hb])
      simp only [hb', hread]
      cases memRead s (bufAddr base s.currentLED) with
      | none => rfl
      | some k => exact loadIndex_withMem m s k

/-- WRITE reads element 0 of the buffer that it is given (R148, R153). -/
theorem write_withMem {addr : Operand}
    (h : memRead (s.withMem m) (bufAddr addr 0) = memRead s (bufAddr addr 0)) :
    execWrite addr (s.withMem m) = mapMemory m (execWrite addr s) := by
  have hframe : ReadsAlike m (s.lock.beginFrame addr) := by
    rintro x ⟨⟩
    exact h
  simp only [execWrite, apply_ite (mapMemory m), ← advanceLed_withMem hframe]
  rfl

theorem resume_withMem (h : ReadsAlike m s) : execResume (s.withMem m) = mapMemory m (execResume s) := by
  have ha : (s.withMem m).resumeAction = s.resumeAction := rfl
  rw [execResume, execResume, ha]
  cases s.resumeAction with
  | unset => rfl
  | continueBit => exact encodeBit_withMem m s
  | advanceLed => exact advanceLed_withMem h

theorem runHandler_withMem (h : ReadsAlike m s) (handler : Handler) :
    runHandler handler (s.withMem m) = mapMemory m (runHandler handler s) := by
  cases handler with
  | noHandler => rfl
  | fall => exact fall_withMem m s
  | resume => exact resume_withMem h
  | gapDone => rfl

/-- TICK changes neither the borrow nor the index before its handler runs (R190). -/
theorem tick_withMem (h : ReadsAlike m s) : execTick (s.withMem m) = mapMemory m (execTick s) := by
  have hcleared : ReadsAlike m s.advanceTime.countDown.clearTimer := h
  simp only [execTick, countStep, apply_ite (mapMemory m), ← runHandler_withMem hcleared]
  rfl

theorem exec_withMem {i : Instr} (h : ∀ x, readAddress i s = some x → memRead (s.withMem m) x = memRead s x) :
    exec i (s.withMem m) = mapMemory m (exec i s) := by
  cases i with
  | init pin => exact init_withMem m s pin
  | write addr => exact write_withMem (h _ rfl)
  | rdlock => rfl
  | tick => exact tick_withMem h
  | advanceLed => exact advanceLed_withMem h
  | encodeBit => exact encodeBit_withMem m s
  | beginPulse => exact execBeginPulse_withMem m s
  | enterGap => exact enterGap_withMem m s
  | fall => exact fall_withMem m s
  | resume => exact resume_withMem h
  | gapDone => rfl
  | arm handler ticks => exact arm_withMem m s ticks.toNat handler
  | setPin level => rfl

end

end Sys2Proof.Machine

open Sys2Proof Sys2Proof.Machine

/-- Settles O13: the store writes memory at the address it names, which is below 2^32 by its width. -/
theorem hostStoreChangesOneByte : Obligations.HostStoreChangesOneByte := by
  intro s addr v rest hf hr hi
  exact ⟨_, step_store hf hr hi, memRead_hostStore s addr v⟩

/-- Settles O26: the canonical form lists each address once, and only addresses below 2^32. -/
theorem memReadIsTheListedByte : Obligations.MemReadIsTheListedByte :=
  fun _ _ hm => ⟨memRead_of_ge, fun _ => memRead_eq_some_iff hm⟩

/-- Settles O48: only the host's two inputs write memory, and both keep its form. -/
theorem everyStepKeepsMemoryCanonical : Obligations.EveryStepKeepsMemoryCanonical :=
  fun _ _ => step_keeps_memory_wf

/-- Settles O49: equal memories read alike at every address. -/
theorem noOperationWritesMemoryOrConfiguration : Obligations.NoOperationWritesMemoryOrConfiguration := by
  intro i s t h
  obtain ⟨hmem, hcfg, hinputs⟩ := exec_keeps_surroundings h
  exact ⟨memRead_congr hmem, hmem, hcfg, hinputs⟩

/-- Settles O52: the operations reach memory through ADVANCE_LED's one read alone. -/
theorem onlyTheCurrentElementIsRead : Obligations.OnlyTheCurrentElementIsRead :=
  fun _ _ _ => exec_withMem

end

section
/-! PROOFS. The encoding's own rules (30_encoding.md): the step decoder and the table decoder on the encoder's words
(R71 to R78, R85, R86), and what a step does with a word that the decoder refuses (R74, R213). -/

namespace Sys2Proof

/-! ## The verdicts of the step decoder (R74) -/

/-- A word is put together from the three numbers that its bits spell (R71). -/
theorem eq_wordOf_ofNat {w : Word64} {opc rsv opnd : Nat} (hw : w.toNat = opc * 2 ^ 56 + rsv * 2 ^ 32 + opnd)
    (hr : rsv < 2 ^ 24) (ho : opnd < 2 ^ 32) :
    w = wordOf (BitVec.ofNat 8 opc) (BitVec.ofNat 24 rsv) (BitVec.ofNat 32 opnd) := by
  have hlt := w.isLt
  have hopc : opc < 2 ^ 8 := by omega
  apply BitVec.eq_of_toNat_eq
  rw [hw, wordOf_toNat, BitVec.toNat_ofNat, BitVec.toNat_ofNat, BitVec.toNat_ofNat, Nat.mod_eq_of_lt hopc,
    Nat.mod_eq_of_lt hr, Nat.mod_eq_of_lt ho]

section
variable {c : Config}

theorem decode_internalOpcode {opc : BitVec 8} (hlo : 0x10 ≤ opc.toNat) (hhi : opc.toNat ≤ 0x18) (rsv : BitVec 24)
    (opnd : Operand) : decode c (wordOf opc rsv opnd) = .reject .internalOpcode := by
  simp only [decode, opcField_wordOf]
  exact if_pos ⟨hlo, hhi⟩

theorem decode_reservedOpcode {opc : BitVec 8}
    (h : opc.toNat = 0 ∨ (0x05 ≤ opc.toNat ∧ opc.toNat < 0x10) ∨ 0x18 < opc.toNat) (rsv : BitVec 24) (opnd : Operand) :
    decode c (wordOf opc rsv opnd) = .reject .reservedOpcode := by
  simp only [decode, opcField_wordOf]
  rw [if_neg (by omega), if_pos (by omega)]

theorem decode_reservedBits {opc : BitVec 8} (hlo : 1 ≤ opc.toNat) (hhi : opc.toNat ≤ 4) {rsv : BitVec 24}
    (hr : rsv ≠ 0) (opnd : Operand) : decode c (wordOf opc rsv opnd) = .reject .reservedBits := by
  simp only [decode, opcField_wordOf, rsvField_wordOf]
  rw [if_neg (by omega), if_neg (by omega), if_pos hr]

/-- The words of RDLOCK and TICK carry no operand. -/
theorem decode_unusedOperand {opc : BitVec 8} (h : opc.toNat = 3 ∨ opc.toNat = 4) {opnd : Operand} (ho : opnd ≠ 0) :
    decode c (wordOf opc 0 opnd) = .reject .reservedBits := by
  simp only [decode, opcField_wordOf, rsvField_wordOf, opndField_wordOf]
  rw [if_neg (by omega), if_neg (by omega), if_neg (by simp), if_pos ⟨h, ho⟩]

theorem decode_init_outside {pin : Operand} (h : pin ∉ c.pins) :
    decode c (encode (.init pin)) = .reject .pinNotInPlatform := by
  simp [decode, encode, h]

theorem decode_init {pin : Operand} (h : pin ∈ c.pins) : decode c (encode (.init pin)) = .instr (.init pin) := by
  simp [decode, encode, h]

theorem decode_write (addr : Operand) : decode c (encode (.write addr)) = .instr (.write addr) := by
  simp [decode, encode]

theorem decode_rdlock : decode c (encode .rdlock) = .instr .rdlock := by
  simp [decode, encode]

theorem decode_tick : decode c (encode .tick) = .instr .tick := by
  simp [decode, encode]

/-- All that the step decoder accepts: the words of the four steps, INIT's with a pin of the platform (R73, R74). -/
theorem decode_instr_cases {w : Word64} {i : Instr} (h : decode c w = .instr i) :
    w = encode i ∧ ((∃ pin, i = .init pin ∧ pin ∈ c.pins) ∨ (∃ addr, i = .write addr) ∨ i = .rdlock ∨ i = .tick) := by
  rw [← wordOf_fields w] at h ⊢
  generalize opcField w = opc, rsvField w = rsv, opndField w = opnd at h ⊢
  simp only [decode, opcField_wordOf, rsvField_wordOf, opndField_wordOf] at h
  have hopc : ∀ {n : Nat}, opc.toNat = n → opc = BitVec.ofNat 8 n := by
    rintro n rfl
    simp
  split_ifs at h with hint hstep hrsv hopnd hpin h1 h2 h3
  all_goals cases h
  all_goals obtain rfl : rsv = 0 := not_not.1 hrsv
  · exact ⟨by rw [hopc h1]; rfl, .inl ⟨opnd, rfl, by simpa [h1] using hpin⟩⟩
  · exact ⟨by rw [hopc h2]; rfl, .inr (.inl ⟨opnd, rfl⟩)⟩
  · obtain rfl : opnd = 0 := by simpa [h3] using hopnd
    exact ⟨by rw [hopc h3]; rfl, .inr (.inr (.inl rfl))⟩
  · have h4 : opc.toNat = 4 := by omega
    obtain rfl : opnd = 0 := by simpa [h4] using hopnd
    exact ⟨by rw [hopc h4]; rfl, .inr (.inr (.inr rfl))⟩

/-- The verdict depends on the configuration through P_PINS alone (R73). -/
theorem decode_congr_pins {c' : Config} (h : c.pins = c'.pins) (w : Word64) : decode c w = decode c' w := by
  simp only [decode, h]

end

/-! ## The table decoder on the encoder's words (R85) -/

/-- ARM's handler code is bits [33:32], the two low bits of RSV. -/
theorem extractLsb'_handler_wordOf (opc : BitVec 8) (code : BitVec 2) (opnd : Operand) :
    (wordOf opc (code.setWidth 24) opnd).extractLsb' 32 2 = code := by
  have := code.isLt
  have := opnd.isLt
  apply BitVec.eq_of_toNat_eq
  simp only [BitVec.extractLsb'_toNat, wordOf_toNat, Nat.shiftRight_eq_div_pow, BitVec.toNat_setWidth]
  omega

/-- The rest of ARM's RSV, bits [55:34], is 0. -/
theorem extractLsb'_rsv_wordOf (opc : BitVec 8) (code : BitVec 2) (opnd : Operand) :
    (wordOf opc (code.setWidth 24) opnd).extractLsb' 34 22 = 0 := by
  have := code.isLt
  have := opnd.isLt
  apply BitVec.eq_of_toNat_eq
  have hzero : (0 : BitVec 22).toNat = 0 := rfl
  simp only [BitVec.extractLsb'_toNat, wordOf_toNat, Nat.shiftRight_eq_div_pow, BitVec.toNat_setWidth, hzero]
  omega

theorem decodeArm_encode (h : Handler) (n : Operand) : decodeArm (encode (.arm h n)) = .instr (.arm h n) := by
  simp only [decodeArm, encode, extractLsb'_rsv_wordOf, extractLsb'_handler_wordOf, opndField_wordOf,
    Handler.ofCode_code, ne_eq, not_true_eq_false, if_false]

theorem decodeSetPin_encode (l : Level) : decodeSetPin (encode (.setPin l)) = .instr (.setPin l) := by
  cases l <;> decide

theorem decodeOperation_encode (i : Instr) : decodeOperation (encode i) = .instr i := by
  cases i with
  | init pin => simp [decodeOperation, encode, needRsvZero]
  | write addr => simp [decodeOperation, encode, needRsvZero]
  | arm h n =>
    have hd : decodeOperation (encode (.arm h n)) = decodeArm (encode (.arm h n)) := by
      simp [decodeOperation, encode]
    rw [hd, decodeArm_encode]
  | setPin l =>
    have hd : decodeOperation (encode (.setPin l)) = decodeSetPin (encode (.setPin l)) := by
      simp [decodeOperation, encode]
    rw [hd, decodeSetPin_encode]
  | _ => decide

namespace Machine

/-! ## RDATA over a step (R79) -/

/-- Where the outcome is a next state, RDATA is there as it was. -/
def KeepsRdata (s : State) (r : Result) : Prop := ∀ t, r = .next t → t.rdata = s.rdata

theorem keepsRdata_next {s t : State} (h : t.rdata = s.rdata) : KeepsRdata s (.next t) := by
  rintro _ ⟨⟩
  exact h

theorem keepsRdata_raise (reason : FaultReason) (s t : State) : KeepsRdata s (raise reason t) :=
  fun _ h => by cases h

theorem keepsRdata_refuse (code : RefusalCode) (s t : State) : KeepsRdata s (refuse code t) :=
  fun _ h => by cases h

section
variable (s : State)

theorem arm_keepsRdata (n : Nat) (h : Handler) : KeepsRdata s (arm n h s) := by
  obtain ⟨-, -, -, heq⟩ | ⟨why, heq⟩ := arm_cases n h s
  · rw [heq]; exact keepsRdata_next rfl
  · rw [heq]; exact keepsRdata_refuse _ _ _

theorem fall_keepsRdata : KeepsRdata s (execFall s) := arm_keepsRdata (s.setPin .low) _ _

theorem enterGap_keepsRdata : KeepsRdata s (execEnterGap s) := arm_keepsRdata (s.setPin .low) _ _

theorem encodeBit_keepsRdata : KeepsRdata s (execEncodeBit s) := by
  obtain ⟨b, -, heq⟩ | ⟨-, heq⟩ := encodeBit_cases s
  · rw [heq]; exact arm_keepsRdata ((s.takeBit.setPin .high).keepFall _) _ _
  · rw [heq]; exact keepsRdata_refuse _ _ _

theorem advanceLed_keepsRdata : KeepsRdata s (execAdvanceLed s) := by
  obtain ⟨-, heq⟩ | ⟨-, ⟨-, heq⟩ | ⟨base, -, ⟨-, heq⟩ | ⟨index, -, ⟨-, heq⟩ | ⟨-, heq⟩ | ⟨colour, -, heq⟩⟩⟩⟩ :=
    advanceLed_cases s
  all_goals rw [heq]
  · exact enterGap_keepsRdata s
  · exact keepsRdata_refuse _ _ _
  · exact keepsRdata_raise _ _ _
  · exact keepsRdata_raise _ _ _
  · exact keepsRdata_refuse _ _ _
  · exact encodeBit_keepsRdata (s.loadLed colour)

theorem resume_keepsRdata : KeepsRdata s (execResume s) := by
  obtain ⟨-, heq⟩ | ⟨-, heq⟩ | ⟨-, heq⟩ := resume_cases s
  all_goals rw [heq]
  · exact keepsRdata_refuse _ _ _
  · exact encodeBit_keepsRdata s
  · exact advanceLed_keepsRdata s

theorem runHandler_keepsRdata (h : Handler) : KeepsRdata s (runHandler h s) := by
  cases h with
  | noHandler => exact keepsRdata_refuse _ _ _
  | fall => exact fall_keepsRdata s
  | resume => exact resume_keepsRdata s
  | gapDone => exact keepsRdata_next rfl

theorem tick_keepsRdata : KeepsRdata s (execTick s) := by
  obtain ⟨-, heq⟩ | ⟨-, -, heq⟩ | ⟨-, -, heq⟩ | ⟨-, -, heq⟩ := tick_cases s
  all_goals rw [heq]
  · exact keepsRdata_next rfl
  · exact keepsRdata_refuse _ _ _
  · exact keepsRdata_next rfl
  · exact runHandler_keepsRdata s.advanceTime.countDown.clearTimer _

theorem init_keepsRdata (pin : Operand) : KeepsRdata s (execInit pin s) := by
  obtain ⟨-, heq⟩ | ⟨-, -, -, heq⟩ | ⟨-, -, heq⟩ := init_cases pin s
  all_goals rw [heq]
  · exact keepsRdata_raise _ _ _
  · exact keepsRdata_refuse _ _ _
  · exact keepsRdata_next rfl

theorem write_keepsRdata (addr : Operand) : KeepsRdata s (execWrite addr s) := by
  obtain ⟨-, heq⟩ | ⟨-, -, heq⟩ | ⟨-, -, heq⟩ := write_cases addr s
  all_goals rw [heq]
  · exact keepsRdata_raise _ _ _
  · exact keepsRdata_next rfl
  · exact advanceLed_keepsRdata (s.lock.beginFrame addr)

end

/-- A step's instruction that completes on an empty RDATA leaves the lock there if it is RDLOCK, and nothing else. -/
theorem exec_rdata {i : Instr} {s t : State} (hi : i.isStep = true) (hq : s.rdata = none) (ht : exec i s = .next t) :
    t.rdata = if i = .rdlock then some (zext64 s.locked) else none := by
  cases i with
  | init pin => simpa [hq] using init_keepsRdata s pin t ht
  | write addr => simpa [hq] using write_keepsRdata s addr t ht
  | rdlock => cases ht; rfl
  | tick => simpa [hq] using tick_keepsRdata s t ht
  | _ => cases hi

/-! ## An offered word, accepted or refused (R74) -/

theorem offerWord_reject {s : State} {w : Word64} {code : RefusalCode} (hd : decode s.cfg w = .reject code) :
    offerWord w s = refuse code s := by
  simp only [offerWord, hd]

/-- A step that completes was taken with no fault and no refusal held (R211, R213). -/
theorem running_of_step_next {s t : State} (h : step s = .next t) : s.fault = none ∧ s.refused = none := by
  obtain ⟨held, -, heq⟩ | ⟨held, -, -, heq⟩ | ⟨hf, hr, -⟩ := step_cases s
  · cases heq.symm.trans h
  · cases heq.symm.trans h
  · exact ⟨hf, hr⟩

end Machine

end Sys2Proof

open Sys2Proof Sys2Proof.Machine

/-- Settles O1: of the configuration only the pins matter, and they are given. -/
theorem writtenOutWordsDecode : Obligations.WrittenOutWordsDecode := by
  intro c hpins
  have hc : ∀ w, decode c w = decode { Config.smallest with pins := (List.range 32).map (BitVec.ofNat 32) } w :=
    decode_congr_pins hpins
  simp only [hc]
  decide

/-- Settles O2: each clause is one verdict of the decoder on the word put together from the three numbers. -/
theorem decodeGivesTheFirstVerdict : Obligations.DecodeGivesTheFirstVerdict := by
  intro c w opc rsv opnd hw hrsv hopnd
  have hopc : (BitVec.ofNat 8 opc).toNat = opc := by
    have := w.isLt
    exact Nat.mod_eq_of_lt (by omega)
  obtain rfl := eq_wordOf_ofNat hw hrsv hopnd
  refine ⟨fun hlo hhi => ?_, fun h => ?_, fun hlo hhi hr => ?_, ?_, ?_, ?_, ?_, ?_, ?_⟩
  · exact decode_internalOpcode (by rwa [hopc]) (by rwa [hopc]) _ _
  · exact decode_reservedOpcode (by rwa [hopc]) _ _
  · refine decode_reservedBits (by rwa [hopc]) (by rwa [hopc]) (fun h => hr ?_) _
    exact (Nat.mod_eq_of_lt hrsv).symm.trans (congrArg BitVec.toNat h)
  · rintro h rfl ho
    refine decode_unusedOperand (by rwa [hopc]) fun h0 => ho ?_
    exact (Nat.mod_eq_of_lt hopnd).symm.trans (congrArg BitVec.toNat h0)
  · rintro rfl rfl h
    exact decode_init_outside h
  · rintro rfl rfl h
    exact decode_init h
  · rintro rfl rfl
    exact decode_write _
  · rintro rfl rfl rfl
    exact decode_rdlock
  · rintro rfl rfl rfl
    exact decode_tick

/-- Settles O3: field by field; ARM and SETPIN keep their operands in fields of their own (R85). -/
theorem decodeOfEncodeIsTheOperation : Obligations.DecodeOfEncodeIsTheOperation := decodeOperation_encode

/-- Settles O4: the four steps' words are accepted, and the opcodes of the nine internal operations are 0x10 to 0x18. -/
theorem stepWordsAcceptedInternalWordsRefused : Obligations.StepWordsAcceptedInternalWordsRefused := by
  intro c i
  constructor
  · intro hstep hwf
    cases i with
    | init pin => exact decode_init (by simpa [Instr.wellFormed] using hwf)
    | write addr => exact decode_write addr
    | rdlock => exact decode_rdlock
    | tick => exact decode_tick
    | _ => cases hstep
  · intro hinternal
    cases i with
    | init => cases hinternal
    | write => cases hinternal
    | rdlock => cases hinternal
    | tick => cases hinternal
    | _ => exact decode_internalOpcode (by decide) (by decide) _ _

/-- Settles O5: by what the step decoder accepts. -/
theorem acceptedWordIsThatStepsOwnWord : Obligations.AcceptedWordIsThatStepsOwnWord := by
  intro c w i h
  obtain ⟨rfl, ⟨pin, rfl, hpin⟩ | ⟨addr, rfl⟩ | rfl | rfl⟩ := decode_instr_cases h
  · exact ⟨rfl, by simpa [Instr.wellFormed] using hpin, rfl⟩
  · exact ⟨rfl, rfl, rfl⟩
  · exact ⟨rfl, rfl, rfl⟩
  · exact ⟨rfl, rfl, rfl⟩

/-- Settles O11: the word is decoded on the state with the word taken and RDATA empty, and the refusal is recorded in
that state. -/
theorem refusedWordRefusesTheStep : Obligations.RefusedWordRefusesTheStep := by
  intro s w rest code hf hr hi hd
  calc step s
    _ = offerWord w (s.takeInput rest).quiet := step_word hf hr hi
    _ = refuse code (s.takeInput rest).quiet := offerWord_reject (by rwa [quiet_cfg, takeInput_cfg])

/-- Settles O24: a step of the block empties RDATA before its instruction runs, and only RDLOCK fills it. -/
theorem rdataCarriesOnlyRdlocksResponse : Obligations.RdataCarriesOnlyRdlocksResponse := by
  constructor
  · intro s t w rest i hi hd ht
    obtain ⟨hf, hr⟩ := running_of_step_next ht
    have hx : exec i (s.takeInput rest).quiet = .next t := by
      rw [← ht, stepRunsTheDecodedInstruction s w rest i hf hr hi hd]
      rfl
    have hword : zext64 s.locked = BitVec.ofNat 64 s.locked.toNat := by cases s.locked <;> decide
    rw [← hword]
    exact exec_rdata (s := (s.takeInput rest).quiet) (decode_instr_isStep hd) rfl hx
  · intro s t hi ht
    obtain ⟨hf, hr⟩ := running_of_step_next ht
    have hx : execTick s.quiet = .next t := by
      rw [← ht, step_of_running hf hr, enabledStep, hi]
      rfl
    exact tick_keepsRdata s.quiet t hx

end

section
/-! PROOFS. The output encoding (30_encoding.md R80 to R82, R88): the line decoder reads a frame's bits off its high
intervals, a low one between two frames as the gap, and the colours off the bits. -/

namespace Sys2Proof.Machine

/-! ## The bits of a colour and back (R82) -/

/-- The bits of a byte, the least significant first. -/
def byteBits (b : Byte) : List Bool := (List.range 8).map b.getLsbD

@[simp] theorem byteBits_length (b : Byte) : (byteBits b).length = 8 := by simp [byteBits]

/-- Stream bit `8 j + i` is bit `i` of byte `j` (R121). -/
theorem isBitSet_byte {c : Colour} {j : Nat} {b : Byte} (hj : c.byte? j = some b) {i : Nat} (hi : i < 8) :
    isBitSet c (8 * j + i) = some (b.getLsbD i) := by
  have hdiv : (8 * j + i) / 8 = j := by omega
  have hmod : (8 * j + i) % 8 = i := by omega
  have hbit : decide ((b >>> i) &&& 1#8 = 1#8) = b.getLsbD i := by
    rw [BitVec.and_one_eq_setWidth_ofBool_getLsbD, BitVec.getLsbD_ushiftRight, Nat.add_zero]
    cases b.getLsbD i <;> decide
  rw [isBitSet, hdiv, hmod, hj, Option.map_some, hbit]

theorem filterMap_isBitSet_byte {c : Colour} {j : Nat} {b : Byte} (hj : c.byte? j = some b) :
    ((List.range 8).map (8 * j + ·)).filterMap (isBitSet c) = byteBits b := by
  rw [List.filterMap_map, byteBits, ← List.filterMap_eq_map]
  refine List.filterMap_congr fun i hi => ?_
  exact isBitSet_byte hj (List.mem_range.1 hi)

theorem colourBits_eq (c : Colour) : colourBits c = byteBits c.byte0 ++ byteBits c.byte1 ++ byteBits c.byte2 := by
  have hrange : List.range 24 =
      (List.range 8).map (8 * 0 + ·) ++ (List.range 8).map (8 * 1 + ·) ++ (List.range 8).map (8 * 2 + ·) := by decide
  rw [colourBits, hrange, List.filterMap_append, List.filterMap_append, filterMap_isBitSet_byte rfl,
    filterMap_isBitSet_byte rfl, filterMap_isBitSet_byte rfl]

@[simp] theorem colourBits_length (c : Colour) : (colourBits c).length = 24 := by simp [colourBits_eq]

theorem byteOfBits_map_testBit (n x : Nat) : byteOfBits ((List.range n).map x.testBit) = x % 2 ^ n := by
  induction n generalizing x with
  | zero => simp [byteOfBits, Nat.mod_one]
  | succ n ih =>
    have htail : ((List.range n).map Nat.succ).map x.testBit = (List.range n).map (x / 2).testBit := by
      simp [Nat.testBit_succ]
    have hhead : (x.testBit 0).toNat = x % 2 := by
      rw [Nat.testBit_zero]
      obtain h | h := Nat.mod_two_eq_zero_or_one x <;> simp [h]
    rw [List.range_succ_eq_map, List.map_cons, htail, byteOfBits, ih, hhead, Nat.pow_succ, Nat.mul_comm (2 ^ n),
      Nat.mod_mul]

theorem ofNat_byteOfBits_byteBits (b : Byte) : BitVec.ofNat 8 (byteOfBits (byteBits b)) = b := by
  apply BitVec.eq_of_toNat_eq
  have h : byteOfBits (byteBits b) = b.toNat % 2 ^ 8 := byteOfBits_map_testBit 8 b.toNat
  rw [h, Nat.mod_eq_of_lt b.isLt, BitVec.ofNat_toNat, BitVec.setWidth_eq]

theorem colourOfBits_colourBits (c : Colour) : colourOfBits (colourBits c) = c := by
  have hlast : (byteBits c.byte0 ++ byteBits c.byte1).length = 16 := by simp
  rw [colourOfBits, colourBits_eq, List.drop_left' hlast, List.take_of_length_le (byteBits_length c.byte2).le]
  simp [ofNat_byteOfBits_byteBits]

/-! ## The bits of a frame and back (R81, R88) -/

theorem frameBits_cons (c : Colour) (cs : List Colour) : frameBits (c :: cs) = colourBits c ++ frameBits cs :=
  List.flatMap_cons

theorem frameBits_length (colours : List Colour) : (frameBits colours).length = 24 * colours.length := by
  simp [frameBits, List.length_flatMap, Nat.mul_comm]

theorem frameBits_ne_nil {colours : List Colour} (h : colours ≠ []) : frameBits colours ≠ [] := by
  have hpos := List.length_pos_iff.2 h
  refine List.length_pos_iff.1 ?_
  rw [frameBits_length]
  omega

theorem coloursOfBits_frameBits (colours : List Colour) :
    coloursOfBits colours.length (frameBits colours) = colours := by
  induction colours with
  | nil => rfl
  | cons c cs ih =>
    rw [frameBits_cons, List.length_cons, coloursOfBits, List.take_left' (colourBits_length c),
      List.drop_left' (colourBits_length c), colourOfBits_colourBits, ih]

theorem frameOfBits_frameBits (colours : List Colour) : frameOfBits (frameBits colours) = colours := by
  rw [frameOfBits, frameBits_length, Nat.mul_div_cancel_left _ (by decide), coloursOfBits_frameBits]

/-- How long bits last, sent one after the other (R162). -/
def bitsTicks (c : Config) (bits : List Bool) : Nat := (bits.map (bitTicks c)).sum

@[simp] theorem bitsTicks_nil (c : Config) : bitsTicks c [] = 0 := rfl

@[simp] theorem bitsTicks_cons (c : Config) (b : Bool) (bits : List Bool) :
    bitsTicks c (b :: bits) = bitTicks c b + bitsTicks c bits := rfl

theorem frameTicks_eq_bitsTicks (c : Config) (colours : List Colour) :
    frameTicks c colours = bitsTicks c (frameBits colours) := by
  induction colours with
  | nil => rfl
  | cons colour rest ih =>
    rw [frameBits_cons, bitsTicks, List.map_append, List.sum_append]
    exact congrArg (ledTicks c colour + ·) ih

/-! ## The intervals of a trace (R187, R88) -/

theorem recordedOp_encode (t : Nat) (i : Instr) : recordedOp ⟨t, encode i⟩ = some i := by
  simp [recordedOp, decodeOperation_encode, Decoded.instr?]

section
variable {upto t since : Nat} {level was : Level} {rest : List TraceRecord}

@[simp] theorem intervals_arm {run : Option (Level × Nat)} {h : Handler} {n : Operand} :
    intervals upto run (⟨t, encode (.arm h n)⟩ :: rest) = intervals upto run rest := by
  simp only [intervals, recordedOp_encode]

@[simp] theorem intervals_setPin_first :
    intervals upto none (⟨t, encode (.setPin level)⟩ :: rest) = intervals upto (some (level, t)) rest := by
  simp only [intervals, recordedOp_encode]

/-- A SETPIN to the level that the line has ends no interval. -/
@[simp] theorem intervals_setPin_same :
    intervals upto (some (level, since)) (⟨t, encode (.setPin level)⟩ :: rest) =
      intervals upto (some (level, since)) rest := by
  simp only [intervals, recordedOp_encode, if_true]

theorem intervals_setPin_change (h : was ≠ level) :
    intervals upto (some (was, since)) (⟨t, encode (.setPin level)⟩ :: rest) =
      (was, t - since) :: intervals upto (some (level, t)) rest := by
  simp only [intervals, recordedOp_encode, if_neg h]

variable {c : Config} {b : Bool}

/-- What follows a pulse's rise: its high interval, and the line LOW since the fall. -/
theorem intervals_pulse_high :
    intervals upto (some (.high, t)) ((pulseTrace c t b).tail ++ rest) =
      (.high, (riseFallFor c b).1) :: intervals upto (some (.low, t + (riseFallFor c b).1)) rest := by
  simp [pulseTrace, intervals_setPin_change]

theorem intervals_pulse_first :
    intervals upto none (pulseTrace c t b ++ rest) =
      (.high, (riseFallFor c b).1) :: intervals upto (some (.low, t + (riseFallFor c b).1)) rest := by
  rw [← intervals_pulse_high]
  exact intervals_setPin_first

theorem intervals_pulse :
    intervals upto (some (.low, since)) (pulseTrace c t b ++ rest) =
      (.low, t - since) :: (.high, (riseFallFor c b).1) ::
        intervals upto (some (.low, t + (riseFallFor c b).1)) rest := by
  rw [← intervals_pulse_high]
  exact intervals_setPin_change (by decide)

/-- The reset gap raises no edge on a LOW line. -/
theorem intervals_gap :
    intervals upto (some (.low, since)) (gapTrace c t ++ rest) = intervals upto (some (.low, since)) rest := by
  simp [gapTrace]

end

/-! ## What the intervals say (R88) -/

theorem fall_le_max (c : Config) (b : Bool) : (riseFallFor c b).2 ≤ max c.ticks.t0l c.ticks.t1l := by
  cases b
  · exact le_max_left _ _
  · exact le_max_right _ _

theorem min_le_fall (c : Config) (b : Bool) : min c.ticks.t0l c.ticks.t1l ≤ (riseFallFor c b).2 := by
  cases b
  · exact min_le_left _ _
  · exact min_le_right _ _

section
variable {c : Config} (hc : c.wellFormed = true) {is : List (Level × Nat)}

include hc in
/-- T0H and T1H differ (R8), so a bit's rise names it. -/
theorem bitOfHigh_rise (b : Bool) : bitOfHigh c (riseFallFor c b).1 = some b := by
  obtain ⟨-, -, -, -, -, -, -, -, hne, -⟩ := (wellFormed_iff c).1 hc
  cases b
  · simp [bitOfHigh, riseFallFor]
  · simp [bitOfHigh, riseFallFor, hne.symm]

include hc in
theorem readIntervals_high (b : Bool) :
    readIntervals c ((.high, (riseFallFor c b).1) :: is) = (readIntervals c is).map (.bit b :: ·) := by
  simp only [readIntervals, readInterval, bitOfHigh_rise hc, Option.map_some]
  cases readIntervals c is <;> rfl

theorem readIntervals_short {n : Nat} (h : n ≤ max c.ticks.t0l c.ticks.t1l) :
    readIntervals c ((.low, n) :: is) = readIntervals c is := by
  simp only [readIntervals, readInterval, if_neg (Nat.not_lt.2 h)]
  cases readIntervals c is <;> rfl

theorem readIntervals_long {n : Nat} (h : max c.ticks.t0l c.ticks.t1l < n) :
    readIntervals c ((.low, n) :: is) = (readIntervals c is).map (.gap :: ·) := by
  simp only [readIntervals, readInterval, if_pos h]
  cases readIntervals c is <;> rfl

/-- The symbols read from a trace that the line, LOW since `since`, goes on with. -/
def symbolsAfterLow (c : Config) (upto since : Nat) (trace : List TraceRecord) : Option (List Symbol) :=
  readIntervals c (intervals upto (some (.low, since)) trace)

/-- At the end of a trace the line has been LOW for long enough to be a gap, or it has not. -/
theorem symbolsAfterLow_nil (c : Config) (upto since : Nat) :
    ∃ tail, (tail = [] ∨ tail = [.gap]) ∧ symbolsAfterLow c upto since [] = some tail := by
  obtain h | h := le_or_gt (upto - since) (max c.ticks.t0l c.ticks.t1l)
  · exact ⟨[], .inl rfl, readIntervals_short h⟩
  · exact ⟨[.gap], .inr rfl, readIntervals_long h⟩

include hc in
/-- The bits that follow a bit `b` are read one by one, and the line is left LOW by the fall of the last of them. -/
theorem symbolsAfterLow_bits (upto : Nat) (bits : List Bool) (since : Nat) (b : Bool) :
    ∃ since' b', since + (riseFallFor c b).2 + bitsTicks c bits = since' + (riseFallFor c b').2 ∧
      ∀ rest, symbolsAfterLow c upto since (bitsTrace c (since + (riseFallFor c b).2) bits ++ rest) =
        (symbolsAfterLow c upto since' rest).map (bits.map .bit ++ ·) := by
  induction bits generalizing since b with
  | nil =>
    refine ⟨since, b, rfl, fun rest => ?_⟩
    rw [symbolsAfterLow, bitsTrace, intervals_gap]
    exact (congrFun Option.map_id _).symm
  | cons next more ih =>
    have hend : since + (riseFallFor c b).2 + bitTicks c next =
        since + (riseFallFor c b).2 + (riseFallFor c next).1 + (riseFallFor c next).2 := by
      rw [bitTicks, Nat.add_assoc _ (riseFallFor c next).1]
    obtain ⟨since', b', htime, hread⟩ := ih (since + (riseFallFor c b).2 + (riseFallFor c next).1) next
    refine ⟨since', b', ?_, fun rest => ?_⟩
    · rw [← htime, bitsTicks_cons, ← hend, Nat.add_assoc _ (bitTicks c next)]
    · have hshort : since + (riseFallFor c b).2 - since ≤ max c.ticks.t0l c.ticks.t1l := by
        rw [Nat.add_sub_cancel_left]
        exact fall_le_max c b
      rw [symbolsAfterLow, bitsTrace, List.append_assoc, intervals_pulse, readIntervals_short hshort,
        readIntervals_high hc, hend, ← symbolsAfterLow, hread, Option.map_map]
      rfl

include hc in
/-- A frame with a first bit is read bit by bit: as the first of the trace, or after a low interval as long as a gap. -/
theorem read_frame (upto t : Nat) {bits : List Bool} (hne : bits ≠ []) :
    ∃ since' b', t + bitsTicks c bits = since' + (riseFallFor c b').2 ∧
      (∀ rest, readIntervals c (intervals upto none (bitsTrace c t bits ++ rest)) =
        (symbolsAfterLow c upto since' rest).map (bits.map .bit ++ ·)) ∧
      (∀ since rest, max c.ticks.t0l c.ticks.t1l < t - since →
        symbolsAfterLow c upto since (bitsTrace c t bits ++ rest) =
          (symbolsAfterLow c upto since' rest).map ((.gap :: bits.map .bit) ++ ·)) := by
  obtain ⟨b, more, rfl⟩ := List.exists_cons_of_ne_nil hne
  obtain ⟨since', b', htime, hread⟩ := symbolsAfterLow_bits hc upto more (t + (riseFallFor c b).1) b
  have hend : t + bitTicks c b = t + (riseFallFor c b).1 + (riseFallFor c b).2 := by rw [bitTicks, Nat.add_assoc]
  refine ⟨since', b', ?_, fun rest => ?_, fun since rest hlong => ?_⟩
  · rw [← htime, bitsTicks_cons, ← hend, Nat.add_assoc]
  · rw [bitsTrace, List.append_assoc, intervals_pulse_first, readIntervals_high hc, hend, ← symbolsAfterLow, hread,
      Option.map_map]
    rfl
  · rw [symbolsAfterLow, bitsTrace, List.append_assoc, intervals_pulse, readIntervals_long hlong,
      readIntervals_high hc, hend, ← symbolsAfterLow, hread, Option.map_map, Option.map_map]
    rfl

end

/-! ## The frames of the symbols (R88) -/

theorem splitFrames_bits (before bits : List Bool) (rest : List Symbol) :
    splitFrames before (bits.map .bit ++ rest) = splitFrames (before ++ bits) rest := by
  induction bits generalizing before with
  | nil => simp
  | cons b more ih => simp [splitFrames, ih]

theorem splitFrames_end {bits : List Bool} (hne : bits ≠ []) {tail : List Symbol} (ht : tail = [] ∨ tail = [.gap]) :
    splitFrames [] (bits.map .bit ++ tail) = [bits] := by
  rw [splitFrames_bits]
  obtain rfl | rfl := ht
  · simp [splitFrames, hne]
  · simp [splitFrames, hne]

theorem splitFrames_gap {bits : List Bool} (hne : bits ≠ []) (rest : List Symbol) :
    splitFrames [] (bits.map .bit ++ .gap :: rest) = bits :: splitFrames [] rest := by
  rw [splitFrames_bits]
  simp [splitFrames, hne]

/-! ## The line decoder on frames (R88) -/

section
variable {c : Config}

/-- A frame with no colour raises no edge. -/
theorem decodeLine_empty (c : Config) (upto t : Nat) : decodeLine c upto (frameTrace c t []) = some [] := by
  obtain ⟨tail, htail, hread⟩ := symbolsAfterLow_nil c upto t
  have hintervals : intervals upto none (frameTrace c t []) = intervals upto (some (.low, t)) [] := by
    simp [frameTrace, frameBits, bitsTrace, gapTrace]
  rw [decodeLine, hintervals, ← symbolsAfterLow, hread]
  obtain rfl | rfl := htail <;> rfl

theorem decodeLine_frame (hc : c.wellFormed = true) (upto t : Nat) {colours : List Colour} (hne : colours ≠ []) :
    decodeLine c upto (frameTrace c t colours) = some [colours] := by
  obtain ⟨since, b, -, hread, -⟩ := read_frame hc upto t (frameBits_ne_nil hne)
  obtain ⟨tail, htail, hend⟩ := symbolsAfterLow_nil c upto since
  have hsymbols : readIntervals c (intervals upto none (frameTrace c t colours)) =
      some ((frameBits colours).map .bit ++ tail) := by
    rw [frameTrace, ← List.append_nil (bitsTrace _ _ _), hread, hend, Option.map_some]
  rw [decodeLine, hsymbols, Option.map_some, splitFrames_end (frameBits_ne_nil hne) htail, List.map_singleton,
    frameOfBits_frameBits]

/-- The line is LOW from the last fall of the first frame to the first rise of the second, longer than any bit's fall. -/
theorem decodeLine_two_frames (hc : c.wellFormed = true) {t t' : Nat} (upto : Nat) {first second : List Colour}
    (hgap : max c.ticks.t0l c.ticks.t1l < min c.ticks.t0l c.ticks.t1l + c.ticks.tres) (h1 : first ≠ [])
    (h2 : second ≠ []) (hlater : t + frameTicks c first + c.ticks.tres ≤ t') :
    decodeLine c upto (frameTrace c t first ++ frameTrace c t' second) = some [first, second] := by
  obtain ⟨since, b, htime, hfirst, -⟩ := read_frame hc upto t (frameBits_ne_nil h1)
  obtain ⟨since', b', -, -, hsecond⟩ := read_frame hc upto t' (frameBits_ne_nil h2)
  obtain ⟨tail, htail, hend⟩ := symbolsAfterLow_nil c upto since'
  have hlong : max c.ticks.t0l c.ticks.t1l < t' - since := by
    have := min_le_fall c b
    rw [frameTicks_eq_bitsTicks] at hlater
    omega
  have hsymbols : readIntervals c (intervals upto none (frameTrace c t first ++ frameTrace c t' second)) =
      some ((frameBits first).map .bit ++ .gap :: ((frameBits second).map .bit ++ tail)) := by
    rw [frameTrace, frameTrace, hfirst, ← List.append_nil (bitsTrace _ _ (frameBits second)), hsecond since [] hlong,
      hend]
    rfl
  rw [decodeLine, hsymbols, Option.map_some, splitFrames_gap (frameBits_ne_nil h1),
    splitFrames_end (frameBits_ne_nil h2) htail]
  simp [frameOfBits_frameBits]

end

end Sys2Proof.Machine

open Sys2Proof Sys2Proof.Machine

/-- Settles O57: the high intervals are the bits, and of the low ones only that between two frames is a gap. -/
theorem lineDecoderRecoversTheColours : Obligations.LineDecoderRecoversTheColours := by
  refine ⟨fun c t upto colours hc => ?_, fun c t t' upto first second hc hgap h1 h2 hlater =>
    decodeLine_two_frames hc upto hgap h1 h2 hlater⟩
  by_cases hne : colours = []
  · rw [hne, decodeLine_empty, if_pos rfl]
  · rw [decodeLine_frame hc upto t hne, if_neg hne]

end

section
/-! PROOFS. A frame from its WRITE to the end of its reset gap (30_encoding.md R81; 42_writer_state_machine.md R159 to
R162): what the ticks after an accepted WRITE put on the line. -/

namespace Sys2Proof.Machine

/-! ## A run of ticks, one timer phase after the other (R183, R190) -/

/-- Under ticks alone the block is locked for the `n` ticks after the outcome `r` of time `now`, and then in a state that
meets `P`. -/
def EndsAfter (n now : Nat) (P : State → Prop) (r : Result) : Prop :=
  (∀ k, k < n → ∃ t, andThen r (runTicks k) = .next t ∧ t.locked = true ∧ t.now = now + k) ∧
  ∃ t, andThen r (runTicks n) = .next t ∧ t.now = now + n ∧ P t

theorem endsAfter_zero {t : State} {P : State → Prop} (h : P t) : EndsAfter 0 t.now P (.next t) :=
  ⟨fun _ hk => absurd hk (Nat.not_lt_zero _), t, rfl, rfl, h⟩

/-- Nothing follows a stop. -/
theorem EndsAfter.exists_next {n now : Nat} {P : State → Prop} {r : Result} (h : EndsAfter n now P r) :
    ∃ s, r = .next s := by
  obtain ⟨-, t, ht, -⟩ := h
  cases r with
  | next s => exact ⟨s, rfl⟩
  | fault => cases ht
  | refused => cases ht

/-- The state in which the handler runs that a timer armed with `n` ticks names (R190, R217). -/
def State.expired (n : Nat) (s : State) : State := { s with now := s.now + n, timer := ⟨false, 0, .noHandler⟩ }

/-- The phase of an armed timer, and then what its handler does. -/
theorem EndsAfter.of_expiry {n m : Nat} {P : State → Prop} {s : State} (ha : s.timer.armed = true)
    (hc : s.timer.count = n) (hn : 1 ≤ n) (hl : s.locked = true)
    (h : EndsAfter m (s.now + n) P (runHandler s.timer.handler (s.expired n))) :
    EndsAfter (n + m) s.now P (.next s) := by
  obtain ⟨n, rfl⟩ := Nat.exists_eq_add_of_le' hn
  obtain ⟨hbefore, t, hend, hnow, ht⟩ := h
  have hrun : ∀ j, runTicks (n + 1 + j) s = andThen (runHandler s.timer.handler (s.expired (n + 1))) (runTicks j) :=
    runTicks_expiry ha hc
  refine ⟨fun k hk => ?_, t, (hrun m).trans hend, by omega, ht⟩
  obtain hlt | hge := lt_or_ge k (n + 1)
  · exact ⟨_, runTicks_countDown ha hc hlt, hl, rfl⟩
  · obtain ⟨j, rfl⟩ := Nat.exists_eq_add_of_le hge
    obtain ⟨u, hu, hlocked, htime⟩ := hbefore j (by omega)
    exact ⟨u, (hrun j).trans hu, hlocked, by omega⟩

/-! ## The bits of a frame and its gap -/

theorem resume_continue {s : State} (h : s.resumeAction = .continueBit) : execResume s = execEncodeBit s := by
  simp only [execResume, h]

theorem resume_advance {s : State} (h : s.resumeAction = .advanceLed) : execResume s = execAdvanceLed s := by
  simp only [execResume, h]

/-- After the gap (R160): unlocked, LOW and with no stop, `trace` being all that was recorded. -/
def FrameEnded (trace : List TraceRecord) (t : State) : Prop :=
  t.locked = false ∧ t.pinLevel = .low ∧ t.fault = none ∧ t.refused = none ∧ t.trace = trace

/-- `r`, an outcome from `s`, sends these bits and the reset gap after them, and ends the frame (R81, R162). -/
def Sends (s : State) (bits : List Bool) (r : Result) : Prop :=
  EndsAfter (bitsTicks s.cfg bits + s.cfg.ticks.tres) s.now (FrameEnded (s.trace ++ bitsTrace s.cfg s.now bits)) r

/-- A frame of the buffer at `base` is in flight inside a step, `led` of its LEDs loaded; the configuration and host
memory are those of `s₀`. -/
structure InFrame (s₀ : State) (base : Operand) (led : Nat) (s : State) : Prop where
  noFault : s.fault = none
  noRefusal : s.refused = none
  locked : s.locked = true
  timer : s.timer.armed = false
  borrow : s.bufRef = some base
  led : s.currentLED = led
  cfg : s.cfg = s₀.cfg
  mem : s.mem = s₀.mem

section
variable (b : Bool) (s : State)

/-- The pulse of a bit has begun (R151, R181). -/
def State.risen : State :=
  ((s.takeBit.setPin .high).keepFall (riseFallFor s.cfg b).2).startTimer (riseFallFor s.cfg b).1 .fall

/-- FALL has run at the end of the pulse's rise (R182). -/
def State.fallen : State :=
  (((s.risen b).expired (riseFallFor s.cfg b).1).setPin .low).startTimer (riseFallFor s.cfg b).2 .resume

/-- The bit is sent: RESUME runs in this state (R183). -/
def State.bitSent : State := (s.fallen b).expired (riseFallFor s.cfg b).2

@[simp] theorem bitSent_currentBit : (s.bitSent b).currentBit = s.currentBit + 1 := rfl

@[simp] theorem bitSent_resumeAction : (s.bitSent b).resumeAction = resumeAfter s.currentBit := rfl

@[simp] theorem bitSent_now : (s.bitSent b).now = s.now + bitTicks s.cfg b := Nat.add_assoc _ _ _

@[simp] theorem bitSent_trace : (s.bitSent b).trace = s.trace ++ pulseTrace s.cfg s.now b := by
  simp [State.bitSent, State.fallen, State.risen, State.expired, pulseTrace]

end

section
variable {s₀ s : State} {base : Operand} {led : Nat} {rest : List Bool}

theorem InFrame.ledColour_eq (h : InFrame s₀ base led s) (k : Nat) : ledColour s base k = ledColour s₀ base k := by
  simp only [ledColour, memRead_congr h.mem, paletteRead, h.cfg]

variable (hw : s₀.cfg.wellFormed = true)
include hw

theorem enterGap_sends (h : InFrame s₀ base led s) : Sends s [] (execEnterGap s) := by
  have hc : s.cfg.wellFormed = true := h.cfg ▸ hw
  obtain ⟨hpos, -⟩ := (admitsTicks_iff _ _).1 (gap_admitted hc)
  have hended : FrameEnded (s.trace ++ bitsTrace s.cfg s.now [])
      (((s.setPin .low).startTimer s.cfg.ticks.tres .gapDone).expired s.cfg.ticks.tres).unlock.endFrame :=
    ⟨rfl, rfl, h.noFault, h.noRefusal, List.append_assoc _ _ _⟩
  rw [enterGap_next hc h.timer, Sends, bitsTicks_nil, Nat.zero_add]
  exact EndsAfter.of_expiry (s := (s.setPin .low).startTimer s.cfg.ticks.tres .gapDone) rfl rfl hpos h.locked
    (endsAfter_zero hended)

/-- A bit's pulse and then what RESUME sends (R151, R181 to R183). -/
theorem encodeBit_sends (h : InFrame s₀ base led s) {b : Bool} (hb : isBitSet s.currentColour s.currentBit = some b)
    (hnext : Sends (s.bitSent b) rest (execResume (s.bitSent b))) : Sends s (b :: rest) (execEncodeBit s) := by
  have hc : s.cfg.wellFormed = true := h.cfg ▸ hw
  obtain ⟨hrise, -⟩ := (admitsTicks_iff _ _).1 (rise_admitted hc b)
  obtain ⟨hfall, -⟩ := (admitsTicks_iff _ _).1 (fall_admitted hc b)
  have hfallen : execFall ((s.risen b).expired (riseFallFor s.cfg b).1) = .next (s.fallen b) :=
    arm_next rfl (fall_admitted hc b) (by decide)
  have hrun : runHandler (s.risen b).timer.handler ((s.risen b).expired (riseFallFor s.cfg b).1) =
      .next (s.fallen b) := hfallen
  have hticks : bitsTicks s.cfg (b :: rest) + s.cfg.ticks.tres =
      (riseFallFor s.cfg b).1 + ((riseFallFor s.cfg b).2 + (bitsTicks s.cfg rest + s.cfg.ticks.tres)) := by
    rw [bitsTicks_cons, bitTicks]
    omega
  have htrace : s.trace ++ bitsTrace s.cfg s.now (b :: rest) =
      (s.bitSent b).trace ++ bitsTrace s.cfg (s.bitSent b).now rest := by
    rw [bitSent_trace, bitSent_now, bitsTrace, List.append_assoc]
  rw [encodeBit_next hc h.timer hb, Sends, hticks, htrace]
  refine EndsAfter.of_expiry (s := s.risen b) rfl rfl hrise h.locked ?_
  rw [hrun]
  exact EndsAfter.of_expiry (s := s.fallen b) rfl rfl hfall h.locked hnext

/-- The bits of an LED from the current one on, and then what ADVANCE_LED sends (R151, R156). -/
theorem resume_sends_led (hlast : ∀ w, InFrame s₀ base led w → Sends w rest (execAdvanceLed w)) (n : Nat)
    (h : InFrame s₀ base led s) (hn : s.currentBit + n = 24)
    (ha : s.resumeAction = if n = 0 then .advanceLed else .continueBit) :
    Sends s ((List.range' s.currentBit n).filterMap (isBitSet s.currentColour) ++ rest) (execResume s) := by
  induction n generalizing s with
  | zero =>
    rw [resume_advance (ha.trans (if_pos rfl))]
    exact hlast s h
  | succ n ih =>
    obtain ⟨b, hb⟩ := isBitSet_of_lt s.currentColour (i := s.currentBit) (by omega)
    rw [resume_continue (ha.trans (if_neg (Nat.succ_ne_zero n))), List.range'_succ, List.filterMap_cons_some hb]
    refine encodeBit_sends hw h hb (ih (s := s.bitSent b) { h with timer := rfl } ?_ ?_)
    · rw [bitSent_currentBit]; omega
    · have hmore : s.currentBit + 1 < 24 ↔ ¬ n = 0 := by omega
      simp only [bitSent_resumeAction, resumeAfter, hmore, ite_not]

/-- ADVANCE_LED sends the LEDs from the current one on, each of them valid, and then the gap (R153, R159). -/
theorem advanceLed_sends (n : Nat) (hn : led + n = s₀.cfg.numLeds)
    (hvalid : ∀ k, k < s₀.cfg.numLeds → (ledColour s₀ base k).isSome = true) (h : InFrame s₀ base led s) :
    Sends s (frameBits ((List.range' led n).filterMap (ledColour s₀ base))) (execAdvanceLed s) := by
  induction n generalizing led s with
  | zero =>
    have hdone : s.cfg.numLeds ≤ s.currentLED := by rw [h.cfg, h.led]; omega
    rw [advanceLed_gap hdone]
    exact enterGap_sends hw h
  | succ n ih =>
    obtain ⟨colour, hcolour⟩ := Option.isSome_iff_exists.1 (hvalid led (by omega))
    have hled : s.currentLED < s.cfg.numLeds := by rw [h.cfg, h.led]; omega
    have hload : ledColour s base s.currentLED = some colour := by rw [h.ledColour_eq, h.led, hcolour]
    have hin : InFrame s₀ base (led + 1) (s.loadLed colour) := { h with led := congrArg (· + 1) h.led }
    obtain ⟨b, hb⟩ := isBitSet_of_lt colour (i := 0) (by decide)
    have hbits : colourBits colour = b :: (List.range' 1 23).filterMap (isBitSet colour) :=
      List.filterMap_cons_some hb
    rw [advanceLed_load hled h.borrow hload, List.range'_succ, List.filterMap_cons_some hcolour, frameBits_cons, hbits]
    refine encodeBit_sends hw hin hb ?_
    exact resume_sends_led hw (fun w hw' => ih (by omega) hw') 23 (s := (s.loadLed colour).bitSent b)
      { hin with timer := rfl } rfl rfl

end

end Sys2Proof.Machine

open Sys2Proof Sys2Proof.Machine

/-- Settles O56: an accepted WRITE is ADVANCE_LED at LED 0, with every LED of the frame still to be sent. -/
theorem writeSendsExactlyTheFrame : Obligations.WriteSendsExactlyTheFrame := by
  intro s addr hinv hi hl hvalid
  have harmed : s.timer.armed = false := hinv.i1.symm.trans hl
  have hframe : InFrame s addr 0 (s.lock.beginFrame addr) :=
    ⟨hinv.noFault, hinv.noRefusal, rfl, harmed, rfl, rfl, rfl, rfl⟩
  have hsends := advanceLed_sends hinv.config s.cfg.numLeds (Nat.zero_add _) hvalid hframe
  have hwrite : execWrite addr s = execAdvanceLed (s.lock.beginFrame addr) := by simp [execWrite, hi, hl]
  rw [← List.range_eq_range', ← frameColours, ← hwrite] at hsends
  obtain ⟨begun, hbegun⟩ := hsends.exists_next
  rw [hbegun] at hsends
  obtain ⟨hbefore, t, ht, hnow, hlocked, hlow, hfault, hrefused, htrace⟩ := hsends
  rw [frameTicks_eq_bitsTicks]
  exact ⟨begun, hbegun, hbefore, t, ht, hlocked, hlow, hfault, hrefused, hnow, htrace⟩

end

section
/-! PROOFS. The program text's own rules (30_encoding.md R86, R87): the words that a line expands to, and the polling loop
`waitready`: what it ends with, and that it ends. -/

namespace Sys2Proof.Machine

/-! ## The words of the lines (R86) -/

/-- The number of a word whose RSV is 0. -/
theorem wordOf_zero_rsv (opc : BitVec 8) (opnd : Operand) :
    wordOf opc 0 opnd = BitVec.ofNat 64 (opc.toNat * 2 ^ 56 + opnd.toNat) := by
  have hlt : opc.toNat * 2 ^ 56 + opnd.toNat < 2 ^ 64 := by
    have := opc.isLt
    have := opnd.isLt
    omega
  have hzero : (0 : BitVec 24).toNat = 0 := rfl
  apply BitVec.eq_of_toNat_eq
  rw [wordOf_toNat, BitVec.toNat_ofNat, Nat.mod_eq_of_lt hlt, hzero, Nat.zero_mul, Nat.add_zero]

theorem encode_init (pin : Operand) : encode (.init pin) = BitVec.ofNat 64 (0x01 * 2 ^ 56 + pin.toNat) :=
  wordOf_zero_rsv 0x01 pin

theorem encode_write (addr : Operand) : encode (.write addr) = BitVec.ofNat 64 (0x02 * 2 ^ 56 + addr.toNat) :=
  wordOf_zero_rsv 0x02 addr

theorem runLine_send (fuel : Nat) (addr : Operand) (s : State) :
    runLine fuel (.send addr) s = (waitReady fuel s).andThen fun t => .ofStep (give (encode (.write addr)) t) := rfl

/-! ## One poll of `waitready` (R87) -/

@[simp] theorem Progress.ofStep_next (s : State) : Progress.ofStep (.next s) = .next s := rfl

/-- The state after an RDLOCK that the host offers. -/
def State.polled (s : State) : State := s.quiet.respond (lockedWord s)

theorem busyAnswer_polled (s : State) : busyAnswer s.polled = s.locked := by
  have h : busyAnswer s.polled = (zext64 s.locked).getLsbD 0 := rfl
  rw [h]
  cases s.locked <;> decide

theorem quiet_inv {s : State} (h : BlockInv s) : BlockInv s.quiet := { h with }

theorem polled_inv {s : State} (h : BlockInv s) : BlockInv s.polled :=
  exec_keeps_inv (i := .rdlock) rfl (quiet_inv h) rfl

section
variable {s : State} (h : BlockInv s)
include h

theorem give_rdlock : give (encode .rdlock) s = .next s.polled := give_instr h.noFault h.noRefusal decode_rdlock

theorem give_tick : give (encode .tick) s = execTick s.quiet := give_instr h.noFault h.noRefusal decode_tick

/-- A poll of the idle block ends the loop; a poll of the busy block is followed by one tick and the rest of the loop. -/
theorem waitReady_succ (fuel : Nat) : waitReady (fuel + 1) s =
    if s.locked then (Progress.ofStep (execTick s.polled.quiet)).andThen (waitReady fuel) else .next s.polled := by
  rw [waitReady, give_rdlock h, Progress.ofStep_next, Progress.andThen_next, busyAnswer_polled,
    give_tick (polled_inv h)]

theorem waitReady_idle (hl : s.locked = false) (fuel : Nat) : waitReady (fuel + 1) s = .next s.polled := by
  rw [waitReady_succ h, if_neg (by simp [hl])]

theorem waitReady_busy (hl : s.locked = true) (fuel : Nat) :
    waitReady (fuel + 1) s = (Progress.ofStep (execTick s.polled.quiet)).andThen (waitReady fuel) := by
  rw [waitReady_succ h, if_pos hl]

end

theorem tick_next_now {s t : State} (h : execTick s = .next t) : t.now = s.now + 1 := by
  obtain k | ⟨-, -, -, k⟩ := tick_left_cases (congrArg leftBy h)
  · exact k.now
  · exact k.now

/-! ## Every tick of a frame brings its end closer (R162)

The lexicographic order on how far the frame is from its end, in timer phases, and on the ticks left of the phase. -/

/-- The bits that the frame has still to begin, if no fault ends it. -/
def State.bitsLeft (s : State) : Nat := 24 * (s.cfg.numLeds - s.currentLED) + (24 - s.currentBit)

/-- A bound on the timer phases that remain: two for each bit, and the gap. -/
def State.phasesLeft (s : State) : Nat :=
  match s.timer.handler with
  | .fall => 2 * s.bitsLeft + 3
  | .resume => 2 * s.bitsLeft + 2
  | .gapDone => 1
  | .noHandler => 0

/-- `t` is closer to the end of the frame than `s`. -/
def Closer (t s : State) : Prop :=
  Prod.Lex (· < ·) (· < ·) (t.phasesLeft, t.timer.count) (s.phasesLeft, s.timer.count)

theorem closer_wellFounded : WellFounded Closer :=
  InvImage.wf (fun s : State => (s.phasesLeft, s.timer.count)) (Prod.lex Nat.lt_wfRel Nat.lt_wfRel).wf

theorem closer_of_phase {s t : State} (h : t.phasesLeft < s.phasesLeft) : Closer t s := .left _ _ h

/-- The outcome is a fault, or a state that is closer to the end of the frame than `s`, or the frame's end. -/
def Advances (s : State) (r : Result) : Prop :=
  (∃ f, r = .fault f) ∨ ∃ t, r = .next t ∧ (t.locked = false ∨ Closer t s)

section
variable {s u : State}

theorem fall_advances (hr : Running u) (harmed : u.timer.armed = false) 
    (hkept : (isBitSet u.currentColour (u.currentBit - 1)).map (fun b => (riseFallFor u.cfg b).2) = some u.fallTicks)
    (hs : s.phasesLeft = 2 * u.bitsLeft + 3) : Advances s (execFall u) := by
  obtain ⟨b, -, hb⟩ := Option.map_eq_some_iff.1 hkept
  have hfall : u.cfg.admitsTicks u.fallTicks = true := hb ▸ fall_admitted hr.config b
  have hnext : execFall u = .next ((u.setPin .low).startTimer u.fallTicks .resume) :=
    arm_next harmed hfall (by decide)
  refine .inr ⟨_, hnext, .inr (closer_of_phase ?_)⟩
  rw [hs]
  exact Nat.lt_succ_self (2 * u.bitsLeft + 2)

theorem encodeBit_advances (hc : u.cfg.wellFormed = true) (harmed : u.timer.armed = false) (hbit : u.currentBit < 24)
    (hs : 2 * u.bitsLeft + 1 < s.phasesLeft) : Advances s (execEncodeBit u) := by
  obtain ⟨b, hb⟩ := isBitSet_of_lt u.currentColour hbit
  refine .inr ⟨_, encodeBit_next hc harmed hb, .inr (closer_of_phase (lt_of_eq_of_lt ?_ hs))⟩
  change 2 * (24 * (u.cfg.numLeds - u.currentLED) + (24 - (u.currentBit + 1))) + 3 = 2 * u.bitsLeft + 1
  rw [State.bitsLeft]
  omega

/-- An element that is not valid faults (R51, R154). -/
theorem advanceLed_fault {base : Operand} (hc : u.cfg.wellFormed = true) (hled : u.currentLED < u.cfg.numLeds)
    (hb : u.bufRef = some base) (hnone : ledColour u base u.currentLED = none) : ∃ f, execAdvanceLed u = .fault f := by
  rw [execAdvanceLed, if_pos hled, hb]
  cases hr : memRead u (bufAddr base u.currentLED) with
  | none => exact ⟨_, by simp only [hr]; rfl⟩
  | some k =>
    have hk : u.cfg.paletteSize ≤ k.toNat := by
      by_contra hlt
      obtain ⟨colour, hcolour⟩ := paletteRead_isSome hc (Nat.lt_of_not_le hlt)
      simp [ledColour, hr, Nat.lt_of_not_le hlt, hcolour] at hnone
    exact ⟨_, by simp only [hr, loadIndex, if_pos hk]; rfl⟩

theorem advanceLed_advances (hr : Running u) (harmed : u.timer.armed = false) (hs : 2 * u.bitsLeft + 1 < s.phasesLeft) :
    Advances s (execAdvanceLed u) := by
  obtain hge | hled := le_or_gt u.cfg.numLeds u.currentLED
  · rw [advanceLed_gap hge]
    exact .inr ⟨_, enterGap_next hr.config harmed, .inr (closer_of_phase (Nat.lt_of_le_of_lt (Nat.le_add_left 1 _) hs))⟩
  · obtain ⟨base, hb⟩ := Option.isSome_iff_exists.1 hr.borrow
    cases hcolour : ledColour u base u.currentLED with
    | none => exact .inl (advanceLed_fault hr.config hled hb hcolour)
    | some colour =>
      rw [advanceLed_load hled hb hcolour]
      refine encodeBit_advances (u := u.loadLed colour) hr.config harmed (by simp) (lt_of_le_of_lt ?_ hs)
      change 2 * (24 * (u.cfg.numLeds - (u.currentLED + 1)) + (24 - 0)) + 1 ≤ _
      rw [State.bitsLeft]
      omega

theorem resume_advances (hr : Running u) (harmed : u.timer.armed = false) (hsend : Sending u)
    (hs : s.phasesLeft = 2 * u.bitsLeft + 2) : Advances s (execResume u) := by
  have hlt : 2 * u.bitsLeft + 1 < s.phasesLeft := hs ▸ Nat.lt_succ_self _
  obtain hbit | hbit := Nat.lt_or_eq_of_le hsend.bit.2
  · rw [resume_continue (hsend.more hbit)]
    exact encodeBit_advances hr.config harmed hbit hlt
  · rw [resume_advance (hsend.last hbit)]
    exact advanceLed_advances hr harmed hlt

theorem tick_advances (h : BlockInv s) (hl : s.locked = true) : Advances s (execTick s) := by
  have ha : s.timer.armed = true := h.i1.symm.trans hl
  have hr : Running s.advanceTime.countDown.clearTimer := { h.running ha with }
  obtain ⟨hidle, -⟩ | ⟨-, h0, -⟩ | ⟨-, hc, heq⟩ | ⟨-, -, heq⟩ := tick_cases s
  · simp [ha] at hidle
  · have := h.i7 ha
    omega
  · rw [heq]
    have hcount : s.timer.count - 1 < s.timer.count := by omega
    exact .inr ⟨_, rfl, .inr (.right _ hcount)⟩
  · rw [heq]
    have hw := h.awaits ha
    cases hh : s.timer.handler with
    | noHandler => rw [hh] at hw; exact hw.elim
    | fall =>
      rw [hh] at hw
      obtain ⟨-, -, hkept⟩ := hw
      exact fall_advances hr rfl hkept (by rw [State.phasesLeft, hh]; rfl)
    | resume =>
      rw [hh] at hw
      obtain ⟨⟨hled, hbit, hmore, hlast⟩, -⟩ := hw
      exact resume_advances hr rfl ⟨hled, hbit, hmore, hlast⟩ (by rw [State.phasesLeft, hh]; rfl)
    | gapDone => exact .inr ⟨_, rfl, .inl rfl⟩

end

/-! ## The loop (R87) -/

/-- The loop followed for `fuel` polls: done with the block idle, or one tick later for each poll. -/
theorem waitReady_inv (fuel : Nat) {s t : State} (h : BlockInv s) :
    (waitReady fuel s = .next t → BlockInv t ∧ t.locked = false ∧ t.rdata = some 0#64) ∧
    (waitReady fuel s = .polling t → BlockInv t ∧ t.now = s.now + fuel) := by
  induction fuel generalizing s with
  | zero =>
    refine ⟨nofun, fun hp => ?_⟩
    cases hp
    exact ⟨h, rfl⟩
  | succ fuel ih =>
    cases hl : s.locked with
    | false =>
      rw [waitReady_idle h hl]
      refine ⟨fun hn => ?_, nofun⟩
      cases hn
      exact ⟨polled_inv h, hl, by simp [State.polled, lockedWord, hl]⟩
    | true =>
      rw [waitReady_busy h hl]
      cases hx : execTick s.polled.quiet with
      | fault f => exact ⟨nofun, nofun⟩
      | refused f => exact ⟨nofun, nofun⟩
      | next u =>
        have hu : BlockInv u := tick_keeps_inv (quiet_inv (polled_inv h)) hx
        have hnow : u.now = s.now + 1 := tick_next_now (s := s.polled.quiet) hx
        obtain ⟨hdone, hpolling⟩ := ih hu
        refine ⟨hdone, fun hp => ?_⟩
        obtain ⟨ht, htime⟩ := hpolling hp
        exact ⟨ht, by omega⟩

theorem waitReady_ends {s : State} (h : BlockInv s) :
    ∃ fuel, (∃ t, waitReady fuel s = .next t ∧ t.locked = false) ∨ ∃ f, waitReady fuel s = .fault f := by
  induction s using closer_wellFounded.induction with
  | _ s ih =>
    cases hl : s.locked with
    | false => exact ⟨1, .inl ⟨_, waitReady_idle h hl 0, hl⟩⟩
    | true =>
      obtain ⟨f, hf⟩ | ⟨u, hu, hcloser⟩ := tick_advances (quiet_inv (polled_inv h)) hl
      · exact ⟨1, .inr ⟨f, by rw [waitReady_busy h hl, hf]; rfl⟩⟩
      · have hinv : BlockInv u := tick_keeps_inv (quiet_inv (polled_inv h)) hu
        have hstep : ∀ fuel, waitReady (fuel + 1) s = waitReady fuel u := fun fuel => by
          rw [waitReady_busy h hl, hu]
          rfl
        obtain hidle | hcloser := hcloser
        · exact ⟨2, .inl ⟨_, (hstep 1).trans (waitReady_idle hinv hidle 0), hidle⟩⟩
        · obtain ⟨fuel, hfuel⟩ := ih u hcloser hinv
          exact ⟨fuel + 1, by rwa [hstep]⟩

end Sys2Proof.Machine

open Sys2Proof Sys2Proof.Machine

/-- Settles O58: the words are those of the encoder, and `send` is what follows `waitready`. -/
theorem assemblerLinesExpandToTheirWords : Obligations.AssemblerLinesExpandToTheirWords := by
  refine ⟨fun pin => ?_, fun addr => ?_, by decide, fun n => ?_, fun fuel addr s t => ⟨fun h => ?_, fun h => ?_⟩⟩
  · rw [AsmLine.words, encode_init]
  · rw [AsmLine.words, encode_write]
  · have htick : encode .tick = 0x0400000000000000#64 := by decide
    rw [AsmLine.words, htick]
  · rw [runLine_send, h, Progress.andThen_next, encode_write]
  · rw [runLine_send, h, Progress.andThen_polling]

/-- Settles O59: each poll that is answered 1 is followed by one tick, and a poll that is answered 0 ends the loop. -/
theorem waitReadyEndsWithTheBlockIdle : Obligations.WaitReadyEndsWithTheBlockIdle :=
  fun fuel _ _ => waitReady_inv fuel

/-- Settles O60: each tick that does not fault brings the end of the frame closer. -/
theorem waitReadyDoesNotPollForEver : Obligations.WaitReadyDoesNotPollForEver :=
  fun _ => waitReady_ends

end

section
/-! PROOFS. The timing table's own rules (40_timing_table.md): the rounding of a duration to ticks (R101), the table
of each timing source (R102), the lookup of a bit's pulse pair (R103), and that no step writes the table (R104). -/

namespace Sys2Proof

theorem riseFallFor_false (c : Config) : riseFallFor c false = (c.ticks.t0h, c.ticks.t0l) := rfl

theorem riseFallFor_true (c : Config) : riseFallFor c true = (c.ticks.t1h, c.ticks.t1l) := rfl

theorem ticks_of_datasheet {c : Config} {d : Datasheet} (h : c.timing = .datasheet d) : c.ticks = d.ticks := by
  rw [Config.ticks, h]

theorem ticks_of_given {c : Config} {t : TickTable} (h : c.timing = .ticks t) : c.ticks = t := by
  rw [Config.ticks, h]

namespace Machine

/-- Every step but a held stop is an operation or a host's store, withdrawal or refused word, and none of these writes
the configuration. -/
theorem step_keeps_cfg {s t : State} (h : leftBy (step s) = some t) : t.cfg = s.cfg := by
  obtain ⟨held, -, heq⟩ | ⟨held, -, -, heq⟩ | ⟨-, -, ⟨-, heq⟩ | ⟨w, rest, code, -, -, heq⟩ | ⟨w, rest, i, -, -, heq⟩ |
    ⟨a, v, rest, -, heq⟩ | ⟨a, rest, -, heq⟩⟩ := step_cases s
  all_goals rw [heq] at h
  · cases h
  · cases h
  · exact (exec_keeps_surroundings (s := s.quiet) h).2.1
  · cases h; rfl
  · exact (exec_keeps_surroundings (s := (s.takeInput rest).quiet) h).2.1
  · cases h; rfl
  · cases h; rfl

end Machine

end Sys2Proof

open Sys2Proof Sys2Proof.Machine

/-- Settles O50: the table is a function of the configuration, which a step keeps. -/
theorem timingTableIsNeverWritten : Obligations.TimingTableIsNeverWritten :=
  fun _ _ h => congrArg Config.ticks (step_keeps_cfg h)

/-- Settles O41: R101's quotient is k exactly when the rounded dividend is from k to below k + 1 times the divisor
2 * 10^9, and these are the statement's bounds with the 10^9 of the rounding taken to the other side. -/
theorem ticksForPeriodRoundsToNearest : Obligations.TicksForPeriodRoundsToNearest := by
  intro f ns k
  rw [ticksForPeriod, Nat.mul_assoc 2 ns, Nat.div_eq_iff (by decide)]
  omega

/-- Settles O42: the lookup on each bit, and the table of each kind of timing source. -/
theorem riseFallIsTheTableLookup : Obligations.RiseFallIsTheTableLookup := by
  refine ⟨fun c => ⟨riseFallFor_false c, riseFallFor_true c⟩, fun c d h => ?_, fun _ _ => ticks_of_given⟩
  rw [ticks_of_datasheet h]
  exact ⟨rfl, rfl, rfl, rfl, rfl⟩

end

section
/-! PROOFS. The colour model's own rules (41_colour_model.md): the stream bit an index selects, the refusal of an index
past the last (R121), and the colour of palette index 0 on the line (R125). -/

namespace Sys2Proof.Machine

/-- The stream bits are those of the three bytes as one word, byte 0 least significant (R82, R121). -/
theorem isBitSet_eq_getLsbD (c : Colour) {i : Nat} (h : i < 24) :
    isBitSet c i = some ((c.byte2 ++ c.byte1 ++ c.byte0).getLsbD i) := by
  obtain ⟨j, k, hj, hk, rfl⟩ : ∃ j k, j < 3 ∧ k < 8 ∧ i = 8 * j + k := ⟨i / 8, i % 8, by omega, by omega, by omega⟩
  rw [BitVec.getLsbD_append, BitVec.getLsbD_append]
  match j with
  | 0 => rw [isBitSet_byte rfl hk]; simp [hk]
  | 1 => rw [isBitSet_byte rfl hk]; simp [hk]
  | 2 =>
    have hpast0 : ¬ 8 * 2 + k < 8 := by omega
    have hpast1 : ¬ 8 * 2 + k - 8 < 8 := by omega
    have hbit : 8 * 2 + k - 8 - 8 = k := by omega
    rw [isBitSet_byte rfl hk, if_neg hpast0, if_neg hpast1, hbit]

/-- ENCODE_BIT has no bit to send from index 24 on. -/
theorem encodeBit_refused {s : State} (h : 24 ≤ s.currentBit) : execEncodeBit s = refuse (.invariant .bitIndex) s := by
  obtain ⟨b, hb, -⟩ | ⟨-, heq⟩ := encodeBit_cases s
  · rw [isBitSet_of_ge s.currentColour h] at hb
    cases hb
  · exact heq

/-- Palette entry 0 is the colour off (R8). -/
theorem paletteRead_zero {s : State} (h : s.cfg.wellFormed = true) : paletteRead s 0 = some Colour.off := by
  obtain ⟨-, -, hoff, -⟩ := (wellFormed_iff s.cfg).1 h
  exact hoff

/-- An element 0 always names a palette entry, for a palette has one at least (R8). -/
theorem ledColour_of_index_zero {s : State} {base : Operand} {k : Nat} (h : s.cfg.wellFormed = true)
    (hr : memRead s (bufAddr base k) = some 0x00) : ledColour s base k = some Colour.off := by
  have hsize : 0 < s.cfg.paletteSize := ((wellFormed_iff s.cfg).1 h).1
  simp [ledColour, hr, hsize, paletteRead_zero h]

theorem colourBits_off : colourBits Colour.off = List.replicate 24 false := by decide

end Sys2Proof.Machine

open Sys2Proof Sys2Proof.Machine

/-- Settles O43: the bits of the three bytes, and ENCODE_BIT's one refusal. -/
theorem isBitSetSelectsTheStreamBit : Obligations.IsBitSetSelectsTheStreamBit :=
  ⟨fun c _ => ⟨isBitSet_eq_getLsbD c, isBitSet_of_ge c⟩, fun _ => encodeBit_refused⟩

/-- Settles O44: the element's colour is palette entry 0, which is off. -/
theorem indexZeroIsSentAsAllZeroBits : Obligations.IndexZeroIsSentAsAllZeroBits :=
  fun _ _ _ hw hr => ⟨Colour.off, ledColour_of_index_zero hw hr, colourBits_off⟩

end

section
/-! PROOFS. The Writer State Machine's own rules (42_writer_state_machine.md): each branch of each of its operations, the
states that the pulses and the gap begin in, how long an LED lasts (R162), and the edges of the state machine (R141). -/

namespace Sys2Proof.Machine

/-! ## INIT (R142 to R144) -/

section
variable {pin : Operand} {s : State}

theorem init_locked (hl : s.locked = true) : execInit pin s = raise (.initWhileLocked pin) s := by
  simp [execInit, hl]

theorem init_otherPin (hl : s.locked = false) (hi : s.initialised = true) (hp : s.pin ≠ some pin) :
    execInit pin s = refuse .reinitOtherPin s := by
  simp [execInit, hl, hi, hp]

theorem init_binds (hl : s.locked = false) (h : s.initialised = false ∨ s.pin = some pin) :
    execInit pin s = .next ((s.bindPin pin).setPin .low).markInitialised := by
  have hfree : ¬ (s.initialised = true ∧ s.pin ≠ some pin) := by
    rintro ⟨hi, hp⟩
    obtain h | h := h
    · simp [hi] at h
    · exact hp h
  rw [execInit, if_neg (by simp [hl]), if_neg hfree]

end

/-- What INIT writes of a block that is bound to the pin and idle stands there already (I5), but for the record. -/
theorem bind_again {pin : Operand} {s : State} (h : BlockInv s) (hl : s.locked = false) (hi : s.initialised = true)
    (hp : s.pin = some pin) : ((s.bindPin pin).setPin .low).markInitialised =
      { s with trace := s.trace ++ [⟨s.now, encode (.setPin .low)⟩] } := by
  obtain ⟨-, hmode⟩ := h.bound hi
  have hlow : s.pinLevel = .low := h.i5Idle hi hl
  simp [State.bindPin, State.setPin, State.markInitialised, lineLevel, hi, hp, hmode, hlow]

/-- A SETPIN to the level that the line has is no transition (R187). -/
theorem transitions_setPin_same (level : Level) (t : Nat) :
    transitions (lineLevel level) [⟨t, encode (.setPin level)⟩] = 0 := by
  simp [transitions, recordedOp_encode]

/-! ## WRITE and RDLOCK (R145 to R150) -/

section
variable {addr : Operand} {s : State}

theorem write_notInitialised (hi : s.initialised = false) : execWrite addr s = raise (.notInitialised addr) s := by
  simp [execWrite, hi]

theorem write_locked (hi : s.initialised = true) (hl : s.locked = true) : execWrite addr s = .next s := by
  simp [execWrite, hi, hl]

theorem write_accepted (hi : s.initialised = true) (hl : s.locked = false) :
    execWrite addr s = execAdvanceLed (s.lock.beginFrame addr) := by
  simp [execWrite, hi, hl]

end

theorem lockedWord_toNat (s : State) : (lockedWord s).toNat = if s.locked then 1 else 0 := by
  rw [lockedWord]
  cases s.locked <;> simp

/-! ## ENCODE_BIT and ENTER_GAP (R151, R155) -/

/-- BEGIN_PULSE's three updates, its two records appended together (R181). -/
theorem rise_eq_pulseBegun (b : Bool) (s : State) :
    ((s.setPin .high).keepFall (riseFallFor s.cfg b).2).startTimer (riseFallFor s.cfg b).1 .fall = pulseBegun b s := by
  simp [pulseBegun, State.setPin, State.keepFall, State.startTimer, lineLevel]

section
variable {s : State}

theorem encodeBit_begins {b : Bool} (hw : s.cfg.wellFormed = true) (ha : s.timer.armed = false)
    (hb : isBitSet s.currentColour s.currentBit = some b) : execEncodeBit s = .next (pulseBegun b s.takeBit) := by
  rw [encodeBit_next hw ha hb]
  exact congrArg _ (rise_eq_pulseBegun b s.takeBit)

/-- ENTER_GAP needs nothing of the configuration but a TRES that the timer holds. -/
theorem enterGap_begins (ha : s.timer.armed = false) (hn : s.cfg.admitsTicks s.cfg.ticks.tres = true) :
    execEnterGap s = .next (gapBegun s) := by
  have hlow : (s.setPin .low).startTimer s.cfg.ticks.tres .gapDone = gapBegun s := by
    simp [gapBegun, State.setPin, State.startTimer, lineLevel]
  rw [← hlow]
  exact arm_next ha hn (by decide)

/-! ## ADVANCE_LED (R153, R154) -/

theorem advanceLed_notAdmitted {base : Operand} (hn : s.currentLED < s.cfg.numLeds) (hb : s.bufRef = some base)
    (hr : memRead s (bufAddr base s.currentLED) = none) :
    execAdvanceLed s = raise (.bufferNotAdmitted (bufAddr base s.currentLED)) s := by
  simp [execAdvanceLed, hn, hb, hr]

theorem advanceLed_read {base : Operand} {k : Byte} (hn : s.currentLED < s.cfg.numLeds) (hb : s.bufRef = some base)
    (hr : memRead s (bufAddr base s.currentLED) = some k) : execAdvanceLed s = loadIndex k s := by
  simp [execAdvanceLed, hn, hb, hr]

theorem loadIndex_outside {k : Byte} (hk : s.cfg.paletteSize ≤ k.toNat) :
    loadIndex k s = raise (.paletteIndex s.currentLED k.toNat) s :=
  if_pos hk

theorem loadIndex_inside {k : Byte} {colour : Colour} (hk : k.toNat < s.cfg.paletteSize)
    (hc : paletteRead s k.toNat = some colour) : loadIndex k s = execEncodeBit (s.loadLed colour) := by
  rw [loadIndex, if_neg (Nat.not_le.2 hk), hc]

/-- The first bit of a colour is the least significant one of its byte 0 (R82, R121). -/
theorem isBitSet_first (colour : Colour) : isBitSet colour 0 = some (colour.byte0.getLsbD 0) :=
  isBitSet_byte (j := 0) (i := 0) rfl (by decide)

theorem advanceLed_beginsGap (hw : s.cfg.wellFormed = true) (ha : s.timer.armed = false)
    (hn : s.cfg.numLeds ≤ s.currentLED) : execAdvanceLed s = .next (gapBegun s) :=
  (advanceLed_gap hn).trans (enterGap_begins ha (gap_admitted hw))

theorem advanceLed_beginsLed {base : Operand} {colour : Colour} (hw : s.cfg.wellFormed = true)
    (ha : s.timer.armed = false) (hn : s.currentLED < s.cfg.numLeds) (hb : s.bufRef = some base)
    (hc : ledColour s base s.currentLED = some colour) :
    execAdvanceLed s = .next (pulseBegun (colour.byte0.getLsbD 0) (s.loadLed colour).takeBit) :=
  (advanceLed_load hn hb hc).trans (encodeBit_begins hw ha (isBitSet_first colour))

/-! ## RESUME (R156) -/

theorem resume_unset (h : s.resumeAction = .unset) : execResume s = refuse (.invariant .resumeUnset) s := by
  simp only [execResume, h]

end

/-! ## How long an LED lasts (R162) -/

theorem bitsTicks_eq (c : Config) (bits : List Bool) :
    bitsTicks c bits = bits.count true * bitTicks c true + bits.count false * bitTicks c false := by
  induction bits with
  | nil => simp
  | cons b bits ih =>
    rw [bitsTicks_cons, ih]
    cases b
    · simp only [List.count_cons_self, List.count_cons_of_ne (by decide : false ≠ true)]; ring
    · simp only [List.count_cons_self, List.count_cons_of_ne (by decide : true ≠ false)]; ring

theorem count_false_colourBits (colour : Colour) : (colourBits colour).count false = 24 - pop colour := by
  have h := List.count_false_add_count_true (colourBits colour)
  rw [colourBits_length] at h
  exact Nat.eq_sub_of_add_eq h

/-! ## The control state (R31) and its edges (R141) -/

section
variable {s t : State}

/-- The control state is read off the lock and the handler. -/
theorem ctrl_congr (hl : t.locked = s.locked) (hh : t.timer.handler = s.timer.handler) : t.ctrl = s.ctrl := by
  rw [State.ctrl, State.ctrl, hl, hh]

theorem ctrl_unlocked (hl : s.locked = false) : s.ctrl = some .idle := if_pos hl

theorem ctrl_fall (hl : s.locked = true) (hh : s.timer.handler = .fall) : s.ctrl = some .encodingBitRise := by
  simp [State.ctrl, hl, hh]

theorem ctrl_resume (hl : s.locked = true) (hh : s.timer.handler = .resume) : s.ctrl = some .encodingBitLow := by
  simp [State.ctrl, hl, hh]

theorem ctrl_gapDone (hl : s.locked = true) (hh : s.timer.handler = .gapDone) : s.ctrl = some .gapReset := by
  simp [State.ctrl, hl, hh]

/-- R38 I1: between steps R31 names a control state. -/
theorem BlockInv.ctrl_isSome (h : BlockInv s) : s.ctrl.isSome = true := by
  cases hl : s.locked with
  | false => simp [ctrl_unlocked hl]
  | true =>
    cases hh : s.timer.handler with
    | noHandler => exact ((h.awaits (h.i1.symm.trans hl)).ne_noHandler hh).elim
    | fall => simp [ctrl_fall hl hh]
    | resume => simp [ctrl_resume hl hh]
    | gapDone => simp [ctrl_gapDone hl hh]

theorem BlockInv.edge_of_ctrl_eq (h : BlockInv s) (leds : Nat) (hc : t.ctrl = s.ctrl) : Edge leds s.ctrl t.ctrl := by
  obtain ⟨c, hs⟩ := Option.isSome_iff_exists.1 h.ctrl_isSome
  rw [hc, hs]
  cases c <;> trivial

/-- ARM names the next phase, and leaves the lock as it was. -/
theorem arm_locked_handler {n : Nat} {h : Handler} (ht : arm n h s = .next t) :
    t.locked = s.locked ∧ t.timer.handler = h := by
  obtain ⟨-, -, -, heq⟩ | ⟨why, heq⟩ := arm_cases n h s
  · cases heq.symm.trans ht
    exact ⟨rfl, rfl⟩
  · cases heq.symm.trans ht

theorem fall_ctrl (hl : s.locked = true) (ht : execFall s = .next t) : t.ctrl = some .encodingBitLow := by
  obtain ⟨hlocked, hh⟩ := arm_locked_handler ht
  exact ctrl_resume (hlocked.trans hl) hh

theorem enterGap_ctrl (hl : s.locked = true) (ht : execEnterGap s = .next t) : t.ctrl = some .gapReset := by
  obtain ⟨hlocked, hh⟩ := arm_locked_handler ht
  exact ctrl_gapDone (hlocked.trans hl) hh

theorem encodeBit_ctrl (hl : s.locked = true) (ht : execEncodeBit s = .next t) :
    t.ctrl = some .encodingBitRise := by
  obtain ⟨b, -, heq⟩ | ⟨-, heq⟩ := encodeBit_cases s
  · obtain ⟨hlocked, hh⟩ := arm_locked_handler (heq.symm.trans ht)
    exact ctrl_fall (hlocked.trans hl) hh
  · cases heq.symm.trans ht

theorem advanceLed_ctrl (hl : s.locked = true) (ht : execAdvanceLed s = .next t) :
    (s.cfg.numLeds ≤ s.currentLED ∧ t.ctrl = some .gapReset) ∨
    (s.currentLED < s.cfg.numLeds ∧ t.ctrl = some .encodingBitRise) := by
  obtain ⟨hge, heq⟩ | ⟨hlt, ⟨-, heq⟩ | ⟨base, -, ⟨-, heq⟩ | ⟨k, -, ⟨-, heq⟩ | ⟨-, heq⟩ | ⟨colour, -, heq⟩⟩⟩⟩ :=
    advanceLed_cases s
  · exact .inl ⟨hge, enterGap_ctrl hl (heq.symm.trans ht)⟩
  · cases heq.symm.trans ht
  · cases heq.symm.trans ht
  · cases heq.symm.trans ht
  · cases heq.symm.trans ht
  · exact .inr ⟨hlt, encodeBit_ctrl (s := s.loadLed colour) hl (heq.symm.trans ht)⟩

theorem resume_ctrl (hl : s.locked = true) (ht : execResume s = .next t) :
    t.ctrl = some .encodingBitRise ∨ t.ctrl = some .gapReset := by
  obtain ⟨-, heq⟩ | ⟨-, heq⟩ | ⟨-, heq⟩ := resume_cases s
  · cases heq.symm.trans ht
  · exact .inl (encodeBit_ctrl hl (heq.symm.trans ht))
  · obtain ⟨-, hc⟩ | ⟨-, hc⟩ := advanceLed_ctrl hl (heq.symm.trans ht)
    · exact .inr hc
    · exact .inl hc

/-- The expiry of a phase, whose handler runs in `u`, takes the edges that leave the phase. -/
theorem runHandler_edge {u : State} (leds : Nat) (hl : s.locked = true) (hu : u.locked = true)
    (ht : runHandler s.timer.handler u = .next t) : Edge leds s.ctrl t.ctrl := by
  cases hh : s.timer.handler with
  | noHandler => rw [hh] at ht; cases ht
  | fall =>
    rw [hh] at ht
    rw [ctrl_fall hl hh, fall_ctrl hu ht]
    trivial
  | resume =>
    rw [hh] at ht
    rw [ctrl_resume hl hh]
    obtain hc | hc := resume_ctrl hu ht
    · rw [hc]; trivial
    · rw [hc]; trivial
  | gapDone =>
    rw [hh] at ht
    cases ht
    rw [ctrl_gapDone hl hh, ctrl_unlocked rfl]
    trivial

theorem tick_edge (h : BlockInv s) (leds : Nat) (ht : execTick s = .next t) : Edge leds s.ctrl t.ctrl := by
  obtain ⟨-, heq⟩ | ⟨-, -, heq⟩ | ⟨-, -, heq⟩ | ⟨ha, -, heq⟩ := tick_cases s
  · cases heq.symm.trans ht
    exact h.edge_of_ctrl_eq leds (ctrl_congr rfl rfl)
  · cases heq.symm.trans ht
  · cases heq.symm.trans ht
    exact h.edge_of_ctrl_eq leds (ctrl_congr rfl rfl)
  · have hl : s.locked = true := h.i1.trans ha
    exact runHandler_edge leds hl (u := s.advanceTime.countDown.clearTimer) hl (heq.symm.trans ht)

theorem init_edge {pin : Operand} (h : BlockInv s) (leds : Nat) (ht : execInit pin s = .next t) :
    Edge leds s.ctrl t.ctrl := by
  obtain ⟨-, heq⟩ | ⟨-, -, -, heq⟩ | ⟨-, -, heq⟩ := init_cases pin s
  · cases heq.symm.trans ht
  · cases heq.symm.trans ht
  · cases heq.symm.trans ht
    exact h.edge_of_ctrl_eq leds (ctrl_congr rfl rfl)

/-- An accepted WRITE begins the first bit, or the gap where there is no LED. -/
theorem write_edge {addr : Operand} (h : BlockInv s) (ht : execWrite addr s = .next t) :
    Edge s.cfg.numLeds s.ctrl t.ctrl := by
  obtain ⟨-, heq⟩ | ⟨-, -, heq⟩ | ⟨-, hl, heq⟩ := write_cases addr s
  · cases heq.symm.trans ht
  · cases heq.symm.trans ht
    exact h.edge_of_ctrl_eq _ rfl
  · rw [ctrl_unlocked hl]
    obtain ⟨hnone, hc⟩ | ⟨hsome, hc⟩ :=
      advanceLed_ctrl (s := s.lock.beginFrame addr) rfl (heq.symm.trans ht)
    · rw [hc]; exact Nat.le_zero.1 hnone
    · rw [hc]; exact hsome

theorem exec_edge {i : Instr} (hi : i.isStep = true) (h : BlockInv s) (ht : exec i s = .next t) :
    Edge s.cfg.numLeds s.ctrl t.ctrl := by
  cases i with
  | init pin => exact init_edge h _ ht
  | write addr => exact write_edge h ht
  | rdlock => cases ht; exact h.edge_of_ctrl_eq _ (ctrl_congr rfl rfl)
  | tick => exact tick_edge h _ ht
  | _ => cases hi

theorem step_edge (h : BlockInv s) (ht : step s = .next t) : Edge s.cfg.numLeds s.ctrl t.ctrl := by
  obtain ⟨held, -, heq⟩ | ⟨held, -, -, heq⟩ | ⟨-, -, ⟨-, heq⟩ | ⟨w, rest, code, -, -, heq⟩ | ⟨w, rest, i, -, hd, heq⟩ |
    ⟨a, v, rest, -, heq⟩ | ⟨a, rest, -, heq⟩⟩ := step_cases s
  · cases heq.symm.trans ht
  · cases heq.symm.trans ht
  · exact exec_edge (s := s.quiet) rfl { h with } (heq.symm.trans ht)
  · cases heq.symm.trans ht
  · exact exec_edge (s := (s.takeInput rest).quiet) (decode_instr_isStep hd) { h with } (heq.symm.trans ht)
  · cases heq.symm.trans ht
    exact h.edge_of_ctrl_eq _ (ctrl_congr rfl rfl)
  · cases heq.symm.trans ht
    exact h.edge_of_ctrl_eq _ (ctrl_congr rfl rfl)

end

end Sys2Proof.Machine

open Sys2Proof Sys2Proof.Machine

/-- Settles O22: an accepted WRITE is ADVANCE_LED at LED 0. -/
theorem acceptedWriteCompletes : Obligations.AcceptedWriteCompletes := by
  intro addr s hw hi hl ha
  refine ⟨fun colour hn hc => ?_, fun hn => ?_⟩
  · exact (write_accepted hi hl).trans (advanceLed_beginsLed (s := s.lock.beginFrame addr) hw ha hn rfl hc)
  · exact (write_accepted hi hl).trans (advanceLed_beginsGap (s := s.lock.beginFrame addr) hw ha hn.le)

/-- Settles O27: the gap once all LEDs are sent, and bit 0 of a valid element's colour before. -/
theorem advanceLedCompletes : Obligations.AdvanceLedCompletes :=
  fun _ hw ha => ⟨advanceLed_beginsGap hw ha, fun _ _ => advanceLed_beginsLed hw ha⟩

/-- Settles O28: stream bit `currentBit` is that bit of the three bytes as one word (R82). -/
theorem encodeBitBeginsTheBitsPulse : Obligations.EncodeBitBeginsTheBitsPulse :=
  fun s hw ha hbit => encodeBit_begins hw ha (isBitSet_eq_getLsbD s.currentColour hbit)

/-- Settles O33: RESUME is ENCODE_BIT or ADVANCE_LED, and both complete. -/
theorem resumeCompletes : Obligations.ResumeCompletes := by
  intro s hw ha
  obtain ⟨hgap, hled⟩ := advanceLedCompletes s hw ha
  refine ⟨fun hr hbit => ?_, fun hr hn => ?_, fun base colour hr hn hb hc => ?_⟩
  · exact (resume_continue hr).trans (encodeBitBeginsTheBitsPulse s hw ha hbit)
  · exact (resume_advance hr).trans (hgap hn)
  · exact (resume_advance hr).trans (hled base colour hn hb hc)

/-- Settles O45: of the 24 bits, pop(C) are 1 and the others 0. -/
theorem ledDurationCountsItsOnes : Obligations.LedDurationCountsItsOnes := by
  intro c colour
  calc ledTicks c colour
    _ = pop colour * bitTicks c true + (colourBits colour).count false * bitTicks c false :=
      bitsTicks_eq c (colourBits colour)
    _ = pop colour * (c.ticks.t1h + c.ticks.t1l) + (24 - pop colour) * (c.ticks.t0h + c.ticks.t0l) := by
      rw [count_false_colourBits]; rfl

/-- Settles O54: an operation inside a step arms the timer for the phase that an edge leads to, or GAPDONE unlocks; every
other step leaves the lock and the handler alone. -/
theorem stepsFollowTheStateMachine : Obligations.StepsFollowTheStateMachine :=
  fun _ _ => step_edge

/-- Settles O17: INIT's three branches, and the word of its record written out. -/
theorem initBindsThePinAndDrivesLow : Obligations.InitBindsThePinAndDrivesLow := by
  have hword : encode (.setPin .low) = 0x1800000000000000#64 := by decide
  intro pin s
  rw [← hword]
  exact ⟨init_locked, init_otherPin, init_binds⟩

/-- Settles O18: the block is bound and its line LOW already. -/
theorem repeatedInitMakesNoTransition : Obligations.RepeatedInitMakesNoTransition := by
  intro pin s h hl hi hp
  constructor
  · exact (init_binds hl (.inr hp)).trans (congrArg _ (bind_again h hl hi hp))
  · rw [h.i5Idle hi hl]
    exact transitions_setPin_same .low s.now

/-- Settles O19: WRITE asks for INIT before it looks at the lock. -/
theorem writeBeforeInitFaults : Obligations.WriteBeforeInitFaults :=
  fun _ _ => write_notInitialised

/-- Settles O20: a locked block has been initialised (I8). -/
theorem writeWhileLockedDoesNothing : Obligations.WriteWhileLockedDoesNothing :=
  fun _ _ h hl => write_locked (h.i8 hl).1 hl

/-- Settles O21: WRITE's three branches. -/
theorem acceptedWriteRunsAdvanceLed : Obligations.AcceptedWriteRunsAdvanceLed :=
  fun _ _ => ⟨write_notInitialised, write_locked, write_accepted⟩

/-- Settles O23: the response is the lock's word. -/
theorem rdlockAnswersTheLock : Obligations.RdlockAnswersTheLock :=
  fun s => ⟨lockedWord s, lockedWord_toNat s, rfl⟩

/-- Settles O25: ADVANCE_LED's branches, in the order of its checks. -/
theorem advanceLedLoadsTheNextLed : Obligations.AdvanceLedLoadsTheNextLed := by
  refine fun s => ⟨advanceLed_gap, fun base hn hb => ⟨advanceLed_notAdmitted hn hb, fun k hr hk => ?_,
    fun k colour hr hk hc => ?_⟩⟩
  · exact (advanceLed_read hn hb hr).trans (loadIndex_outside hk)
  · exact (advanceLed_read hn hb hr).trans (loadIndex_inside hk hc)

/-- Settles O32: RESUME's three branches. -/
theorem resumeDispatchesOnTheAction : Obligations.ResumeDispatchesOnTheAction :=
  fun _ => ⟨resume_continue, resume_advance, resume_unset⟩

/-- Settles O34: the timer admits the counts of the statement's range. -/
theorem enterGapArmsTheResetGap : Obligations.EnterGapArmsTheResetGap :=
  fun _ ha hlo hhi => enterGap_begins ha ((admitsTicks_iff _ _).2 ⟨hlo, hhi⟩)

/-- Settles O35: GAPDONE always completes, and the two updates it makes write these four fields. -/
theorem gapDoneUnlocks : Obligations.GapDoneUnlocks :=
  fun _ => rfl

end

section
/-! PROOFS. The Signal Driver's own rules (43_signal_driver.md): SETPIN and ARM (R186 to R189), the pulse and its fall
phase (R181 to R183), the clock and the one handler that a TICK runs (R190, R191), and that no step from a state between
steps breaks a premise of these operations (R214). -/

namespace Sys2Proof.Machine

/-! ## ARM (R188, R189) -/

theorem admitsTicks_eq_false_iff (c : Config) (n : Nat) :
    c.admitsTicks n = false ↔ n = 0 ∨ 2 ^ c.timerBits - 1 < n := by
  rw [← Bool.not_eq_true, admitsTicks_iff]
  omega

section
variable {n : Nat} {h : Handler} {s : State}

theorem arm_armed (ha : s.timer.armed = true) : arm n h s = refuse (.invariant .armWhileArmed) s := if_pos ha

theorem arm_outOfRange (ha : s.timer.armed = false) (hn : s.cfg.admitsTicks n = false) :
    arm n h s = refuse (.invariant .armTicks) s := by
  simp [arm, ha, hn]

theorem arm_noHandler (ha : s.timer.armed = false) (hn : s.cfg.admitsTicks n = true) :
    arm n .noHandler s = refuse (.invariant .armHandler) s := by
  simp [arm, ha, hn]

end

/-- The count of an ARM that has its own word always fits the word of its record (R85). -/
theorem ticksField_toNat (n : Operand) : ticksField n.toNat = n := by
  rw [ticksField, if_pos n.isLt, BitVec.ofNat_toNat, BitVec.setWidth_eq]

/-- The number of ARM's word: opcode, handler code and count (R85). -/
theorem encode_arm (h : Handler) (n : Operand) :
    encode (.arm h n) = BitVec.ofNat 64 (0x17 * 2 ^ 56 + h.code.toNat * 2 ^ 32 + n.toNat) := by
  have hn := n.isLt
  have hh := h.code.isLt
  have hopc : (0x17 : BitVec 8).toNat = 0x17 := rfl
  apply BitVec.eq_of_toNat_eq
  rw [encode, wordOf_toNat, BitVec.toNat_ofNat, BitVec.toNat_setWidth, hopc]
  omega

/-! ## The pulse and its fall phase (R181, R182) -/

section
variable {s : State}

/-- BEGIN_PULSE by itself takes the pulse of the bit before `currentBit`. -/
theorem execBeginPulse_of_bit {b : Bool} (hpos : 1 ≤ s.currentBit)
    (hb : isBitSet s.currentColour (s.currentBit - 1) = some b) :
    execBeginPulse s = beginPulse (riseFallFor s.cfg b).1 (riseFallFor s.cfg b).2 s := by
  simp only [execBeginPulse, pulseOperands, if_neg (Nat.ne_of_gt hpos), bitPulse_of_bit hb]

theorem beginPulse_begins {b : Bool} (hw : s.cfg.wellFormed = true) (ha : s.timer.armed = false) :
    beginPulse (riseFallFor s.cfg b).1 (riseFallFor s.cfg b).2 s = .next (pulseBegun b s) := by
  rw [beginPulse_next ha (rise_admitted hw b), rise_eq_pulseBegun]

/-- The fall phase has begun (R182). -/
def State.lowered (s : State) : State := (s.setPin .low).startTimer s.fallTicks .resume

theorem fall_lowers (ha : s.timer.armed = false) (hn : s.cfg.admitsTicks s.fallTicks = true) :
    execFall s = .next s.lowered :=
  arm_next ha hn (by decide)

end

/-! ## TICK (R190) -/

section
variable {s t : State}

/-- The state with one tick counted and the timer cleared, where that tick was the last. -/
theorem clearTimer_eq_expired (hc : s.timer.count = 1) :
    s.advanceTime.countDown.clearTimer = s.expired 1 := by
  simp [State.advanceTime, State.countDown, State.clearTimer, State.expired, hc]

theorem tick_runsHandler (ha : s.timer.armed = true) (hc : s.timer.count = 1) :
    execTick s = runHandler s.timer.handler (s.expired 1) := by
  rw [tick_expiry ha hc, clearTimer_eq_expired hc]

/-! ## What the one handler of a TICK leaves of the timer (R191) -/

/-- Between steps the timer is armed in every control state but IDLE (R31, R38 I1), for a tick at least (I7). -/
theorem BlockInv.armed_of_ctrl {c : Ctrl} (h : BlockInv t) (hc : t.ctrl = some c) (hne : c ≠ .idle) :
    t.timer.armed = true ∧ 1 ≤ t.timer.count := by
  have hl : t.locked = true := by
    by_contra hl
    rw [ctrl_unlocked (Bool.eq_false_of_not_eq_true hl), Option.some.injEq] at hc
    exact hne hc.symm
  have ha : t.timer.armed = true := h.i1.symm.trans hl
  exact ⟨ha, (h.i7 ha).1⟩

theorem handler_ne_resume_of_ctrl {c : Ctrl} (hl : t.locked = true) (hc : t.ctrl = some c)
    (hne : c ≠ .encodingBitLow) : t.timer.handler ≠ .resume := by
  intro hh
  rw [ctrl_resume hl hh, Option.some.injEq] at hc
  exact hne hc.symm

theorem fall_rearms (ht : BlockInv t) (hl : s.locked = true) (h : execFall s = .next t) :
    t.timer.armed = true ∧ t.timer.handler = .resume ∧ 1 ≤ t.timer.count := by
  obtain ⟨harmed, hcount⟩ := ht.armed_of_ctrl (fall_ctrl hl h) (by decide)
  exact ⟨harmed, (arm_locked_handler h).2, hcount⟩

/-- RESUME begins a pulse or the gap. -/
theorem resume_rearms (ht : BlockInv t) (hl : s.locked = true) (h : execResume s = .next t) :
    t.timer.armed = true ∧ t.timer.handler ≠ .resume ∧ 1 ≤ t.timer.count := by
  obtain ⟨c, hc, hidle, hlow⟩ : ∃ c, t.ctrl = some c ∧ c ≠ .idle ∧ c ≠ .encodingBitLow := by
    obtain hc | hc := resume_ctrl hl h
    · exact ⟨_, hc, by decide, by decide⟩
    · exact ⟨_, hc, by decide, by decide⟩
  obtain ⟨harmed, hcount⟩ := ht.armed_of_ctrl hc hidle
  exact ⟨harmed, handler_ne_resume_of_ctrl (ht.i1.trans harmed) hc hlow, hcount⟩

/-! ## How long a pulse lasts (R183) -/

/-- While a timer runs, the line stays as it is. -/
theorem runTicks_holdsLine {n k : Nat} (ha : s.timer.armed = true) (hc : s.timer.count = n) (hk : k < n) :
    ∃ t, runTicks k s = .next t ∧ t.pinLevel = s.pinLevel ∧ t.now = s.now + k :=
  ⟨_, runTicks_countDown ha hc hk, rfl, rfl⟩

/-- The ticks of the rise end in the fall phase. -/
theorem runTicks_rise {r : Nat} (htimer : s.timer = ⟨true, r, .fall⟩) (hr : 1 ≤ r)
    (hf : s.cfg.admitsTicks s.fallTicks = true) (k : Nat) :
    runTicks (r + k) s = runTicks k (s.expired r).lowered := by
  obtain ⟨r, rfl⟩ := Nat.exists_eq_add_of_le' hr
  have hfall : runHandler s.timer.handler (s.expired (r + 1)) = .next (s.expired (r + 1)).lowered := by
    rw [htimer]
    exact fall_lowers rfl hf
  calc runTicks (r + 1 + k) s
    _ = andThen (runHandler s.timer.handler (s.expired (r + 1))) (runTicks k) :=
      runTicks_expiry (by rw [htimer]) (by rw [htimer]) k
    _ = runTicks k (s.expired (r + 1)).lowered := by rw [hfall]; rfl

/-- The last tick of a running timer finds it at 1, and runs the handler on what the phase has left. -/
theorem runTicks_lastTick {n : Nat} (ha : s.timer.armed = true) (hc : s.timer.count = n) (hn : 1 ≤ n) :
    ∃ t, runTicks (n - 1) s = .next t ∧ t.now + 1 = s.now + n ∧
      execTick t = runHandler s.timer.handler (t.expired 1) := by
  have hone : n - (n - 1) = 1 := by omega
  refine ⟨_, runTicks_countDown ha hc (by omega), ?_, tick_runsHandler rfl hone⟩
  change s.now + (n - 1) + 1 = s.now + n
  omega

end

/-! ## No INVARIANT refusal from a state between steps (R189, R214) -/

/-- The outcome is no refusal with an INVARIANT code. -/
def NoBreach (r : Result) : Prop := ∀ why t, r ≠ .refused (.raised (.invariant why) t)

theorem noBreach_next (t : State) : NoBreach (.next t) := fun _ _ h => by cases h

theorem noBreach_fault (f : Fault) : NoBreach (.fault f) := fun _ _ h => by cases h

/-- A refusal that is held already is no new one (R213). -/
theorem noBreach_noStep (held : RefusalCode) : NoBreach (.refused (.noStep held)) := fun _ _ h => by cases h

theorem noBreach_refuse {code : RefusalCode} (hcode : ∀ why, code ≠ .invariant why) (s : State) :
    NoBreach (refuse code s) := by
  rintro why t ⟨⟩
  exact hcode why rfl

/-- The decoder refuses with codes of its own (R74). -/
theorem decode_reject_ne_invariant {c : Config} {w : Word64} {code : RefusalCode} (h : decode c w = .reject code)
    (why : InvariantBreach) : code ≠ .invariant why := by
  simp only [decode] at h
  split_ifs at h
  all_goals cases h
  all_goals nofun

section
variable {s : State}

theorem Advances.noBreach {r : Result} (h : Advances s r) : NoBreach r := by
  obtain ⟨f, rfl⟩ | ⟨t, rfl, -⟩ := h
  · exact noBreach_fault f
  · exact noBreach_next t

/-- In a frame with the timer idle ADVANCE_LED begins the gap or the next LED's first bit, or its element is not valid
and faults. -/
theorem advanceLed_noBreach (hr : Running s) (ha : s.timer.armed = false) : NoBreach (execAdvanceLed s) := by
  obtain hsent | hled := le_or_gt s.cfg.numLeds s.currentLED
  · rw [advanceLed_beginsGap hr.config ha hsent]
    exact noBreach_next _
  · obtain ⟨base, hb⟩ := Option.isSome_iff_exists.1 hr.borrow
    cases hc : ledColour s base s.currentLED with
    | none =>
      obtain ⟨f, hf⟩ := advanceLed_fault hr.config hled hb hc
      rw [hf]
      exact noBreach_fault f
    | some colour =>
      rw [advanceLed_beginsLed hr.config ha hled hb hc]
      exact noBreach_next _

theorem tick_noBreach (h : BlockInv s) : NoBreach (execTick s) := by
  cases hl : s.locked with
  | false =>
    rw [tick_idle (h.i1.symm.trans hl)]
    exact noBreach_next _
  | true => exact (tick_advances h hl).noBreach

theorem init_noBreach (pin : Operand) : NoBreach (execInit pin s) := by
  obtain ⟨-, heq⟩ | ⟨-, -, -, heq⟩ | ⟨-, -, heq⟩ := init_cases pin s
  all_goals rw [heq]
  · exact noBreach_fault _
  · exact noBreach_refuse (by nofun) s
  · exact noBreach_next _

/-- An accepted WRITE reaches ADVANCE_LED with the timer idle, as I1 has it of a block that is not locked. -/
theorem write_noBreach (h : BlockInv s) (addr : Operand) : NoBreach (execWrite addr s) := by
  obtain ⟨-, heq⟩ | ⟨-, -, heq⟩ | ⟨hi, hl, heq⟩ := write_cases addr s
  all_goals rw [heq]
  · exact noBreach_fault _
  · exact noBreach_next _
  · have hr : Running (s.lock.beginFrame addr) :=
      ⟨h.noFault, h.noRefusal, h.config, h.memory, h.bound hi, rfl, hi, rfl⟩
    exact advanceLed_noBreach hr (h.i1.symm.trans hl)

theorem exec_noBreach {i : Instr} (hi : i.isStep = true) (h : BlockInv s) : NoBreach (exec i s) := by
  cases i with
  | init pin => exact init_noBreach pin
  | write addr => exact write_noBreach h addr
  | rdlock => exact noBreach_next _
  | tick => exact tick_noBreach h
  | _ => cases hi

theorem step_noBreach (h : BlockInv s) : NoBreach (step s) := by
  obtain ⟨held, -, heq⟩ | ⟨held, -, -, heq⟩ | ⟨-, -, ⟨-, heq⟩ | ⟨w, rest, code, -, hd, heq⟩ | ⟨w, rest, i, -, hd, heq⟩ |
    ⟨a, v, rest, -, heq⟩ | ⟨a, rest, -, heq⟩⟩ := step_cases s
  all_goals rw [heq]
  · exact noBreach_fault _
  · exact noBreach_noStep _
  · exact exec_noBreach (s := s.quiet) rfl { h with }
  · exact noBreach_refuse (decode_reject_ne_invariant hd) _
  · exact exec_noBreach (s := (s.takeInput rest).quiet) (decode_instr_isStep hd) { h with }
  · exact noBreach_next _
  · exact noBreach_next _

end

end Sys2Proof.Machine

open Sys2Proof Sys2Proof.Machine

/-- Settles O30: stream bit `currentBit - 1` is that bit of the three bytes as one word (R82). -/
theorem beginPulseOperationTakesTheCurrentBit : Obligations.BeginPulseOperationTakesTheCurrentBit := by
  intro s hw ha hpos hle
  have hlast : s.currentBit - 1 < 24 := by omega
  exact (execBeginPulse_of_bit hpos (isBitSet_eq_getLsbD s.currentColour hlast)).trans (beginPulse_begins hw ha)

/-- Settles O40: FALL and RESUME leave a control state that is not IDLE, and GAPDONE leaves the cleared timer alone. -/
theorem oneHandlerPerTickRearmsOrEnds : Obligations.OneHandlerPerTickRearmsOrEnds := by
  intro s t h ha hc ht
  have hl : s.locked = true := h.i1.trans ha
  have htinv : BlockInv t := tick_keeps_inv h ht
  have hrun : runHandler s.timer.handler (s.expired 1) = .next t := (tick_runsHandler ha hc).symm.trans ht
  refine ⟨fun hh => ?_, fun hh => ?_, fun hh => ?_⟩
  all_goals rw [hh] at hrun
  · exact fall_rearms (s := s.expired 1) htinv hl hrun
  · exact resume_rearms (s := s.expired 1) htinv hl hrun
  · cases hrun
    rfl

/-- Settles O47: in a frame the handlers find the timer idle and the indices of I3 and I4, and outside one no ARM runs
but that of an accepted WRITE. -/
theorem invariantRefusalsAreUnreachable : Obligations.InvariantRefusalsAreUnreachable :=
  fun _ t why h => step_noBreach h why t

/-- Settles O55: the rise and the fall are each the run of one timer, between them FALL. -/
theorem pulseLastsExactlyItsTicks : Obligations.PulseLastsExactlyItsTicks := by
  intro s b h htimer hkept
  obtain ⟨hrise, -⟩ := (admitsTicks_iff _ _).1 (rise_admitted h.config b)
  obtain ⟨hfall, -⟩ := (admitsTicks_iff _ _).1 (fall_admitted h.config b)
  have harmed : s.timer.armed = true := by rw [htimer]
  have hcount : s.timer.count = (riseFallFor s.cfg b).1 := by rw [htimer]
  have hhigh : s.pinLevel = .high := h.i5Fall (by rw [htimer])
  have hrun := runTicks_rise htimer hrise (by rw [hkept]; exact fall_admitted h.config b)
  refine ⟨fun k hk => ?_, fun k hge hlt => ?_, ?_⟩
  · rw [← hhigh]
    exact runTicks_holdsLine harmed hcount hk
  · obtain ⟨k, rfl⟩ := Nat.exists_eq_add_of_le hge
    obtain ⟨t, ht, hlow, hnow⟩ := runTicks_holdsLine (s := (s.expired (riseFallFor s.cfg b).1).lowered) (k := k)
      rfl hkept (Nat.lt_of_add_lt_add_left hlt)
    exact ⟨t, (hrun k).trans ht, hlow, hnow.trans (Nat.add_assoc _ _ _)⟩
  · obtain ⟨t, ht, hnow, hlast⟩ :=
      runTicks_lastTick (s := (s.expired (riseFallFor s.cfg b).1).lowered) rfl hkept hfall
    have hend : t.now + 1 = s.now + bitTicks s.cfg b := hnow.trans (Nat.add_assoc _ _ _)
    refine ⟨t, ?_, ?_⟩
    · rw [bitTicks, Nat.add_sub_assoc hfall, hrun, ht]
    · rw [← hend]
      exact hlast

/-- Settles O29: SETPIN, the kept fall and ARM, their two records in one. -/
theorem beginPulseRaisesTheLine : Obligations.BeginPulseRaisesTheLine := by
  intro r f s ha hlo hhi
  rw [beginPulse_next ha ((admitsTicks_iff _ _).2 ⟨hlo, hhi⟩)]
  simp [State.setPin, State.keepFall, State.startTimer, lineLevel]

/-- Settles O31: SETPIN and ARM, their two records in one. -/
theorem fallLowersTheLine : Obligations.FallLowersTheLine := by
  intro s ha hlo hhi
  refine (fall_lowers ha ((admitsTicks_iff _ _).2 ⟨hlo, hhi⟩)).trans ?_
  simp [State.lowered, State.setPin, State.startTimer, lineLevel]

/-- Settles O36: the words of the two levels written out. -/
theorem setPinRecordsAndDrives : Obligations.SetPinRecordsAndDrives := by
  have hlow : encode (.setPin .low) = 0x1800000000000000#64 := by decide
  have hhigh : encode (.setPin .high) = 0x1800000000000001#64 := by decide
  intro s
  rw [← hlow, ← hhigh]
  exact ⟨rfl, rfl⟩

/-- Settles O37: the three handlers' codes, and the count in a field of its own width. -/
theorem armLoadsTheTimer : Obligations.ArmLoadsTheTimer := by
  intro s h code n
  refine ⟨arm_armed, fun ha hlo hhi hh => ?_⟩
  obtain ⟨hne, rfl⟩ : h ≠ .noHandler ∧ code = h.code.toNat := by
    obtain ⟨rfl, rfl⟩ | ⟨rfl, rfl⟩ | ⟨rfl, rfl⟩ := hh
    · exact ⟨by decide, rfl⟩
    · exact ⟨by decide, rfl⟩
    · exact ⟨by decide, rfl⟩
  rw [← encode_arm]
  refine (arm_next ha ((admitsTicks_iff _ _).2 ⟨hlo, hhi⟩) hne).trans ?_
  rw [State.startTimer, ticksField_toNat]

/-- Settles O38: ARM's second and third check. -/
theorem armOutsideItsRangesStops : Obligations.ArmOutsideItsRangesStops := by
  refine fun s h n ha => ⟨fun hn => ?_, fun hlo hhi hh => ?_⟩
  · exact arm_outOfRange ha ((admitsTicks_eq_false_iff _ _).2 hn)
  · subst hh
    exact arm_noHandler ha ((admitsTicks_iff _ _).2 ⟨hlo, hhi⟩)

/-- Settles O39: TICK with the timer idle, running and at its last tick. -/
theorem tickCountsDownAndRunsTheHandler : Obligations.TickCountsDownAndRunsTheHandler := by
  refine fun s => ⟨tick_idle, fun ha hc => ?_, fun ha hc => ?_⟩
  · refine (tick_count ha hc).trans ?_
    rw [← ha]
    rfl
  · have hrun : exec .tick s = runHandler s.timer.handler (s.expired 1) := tick_runsHandler ha hc
    refine ⟨fun hh => ?_, fun hh => ?_, fun hh => ?_⟩
    all_goals rw [hrun, hh]; rfl

end

section
/-! PROOFS. The rules on exceptions (60_exceptions.md): a stop is recorded in the state it leaves (R211, R213), and a
state that holds one has no step. -/

namespace Sys2Proof.Machine

/-! ## A held stop (R211, R213) -/

theorem step_of_faulted {s : State} {held : FaultRecord} (hf : s.fault = some held) :
    step s = .fault (.noStep held) := by
  simp only [step, blockStep, hf]

theorem step_of_refused {s : State} {held : RefusalCode} (hf : s.fault = none) (hr : s.refused = some held) :
    step s = .refused (.noStep held) := by
  simp only [step, blockStep, hf, hr]

/-! ## A stop is raised where the other one is as before -/

/-- The outcome completes, or it is what `raise` or `refuse` answers in a state reached before the stop: a fault leaves
the refusal that was held, and a refusal the fault that was held. The two are given as they stood before the operation. -/
inductive RecordsStop (fault : Option FaultRecord) (refused : Option RefusalCode) : Result → Prop where
  | next (t : State) : RecordsStop fault refused (.next t)
  | raise (reason : FaultReason) (u : State) (h : u.refused = refused) : RecordsStop fault refused (raise reason u)
  | refuse (code : RefusalCode) (u : State) (h : u.fault = fault) : RecordsStop fault refused (refuse code u)

section
variable (s : State)

theorem arm_recordsStop (n : Nat) (h : Handler) : RecordsStop s.fault s.refused (arm n h s) := by
  obtain ⟨-, -, -, heq⟩ | ⟨why, heq⟩ := arm_cases n h s
  all_goals rw [heq]
  · exact .next _
  · exact .refuse _ s rfl

theorem beginPulse_recordsStop (r f : Nat) : RecordsStop s.fault s.refused (beginPulse r f s) :=
  arm_recordsStop ((s.setPin .high).keepFall f) r .fall

theorem execBeginPulse_recordsStop : RecordsStop s.fault s.refused (execBeginPulse s) := by
  unfold execBeginPulse
  split
  · exact .refuse _ s rfl
  · exact beginPulse_recordsStop s _ _

theorem fall_recordsStop : RecordsStop s.fault s.refused (execFall s) := arm_recordsStop (s.setPin .low) _ _

theorem enterGap_recordsStop : RecordsStop s.fault s.refused (execEnterGap s) := arm_recordsStop (s.setPin .low) _ _

theorem encodeBit_recordsStop : RecordsStop s.fault s.refused (execEncodeBit s) := by
  obtain ⟨b, -, heq⟩ | ⟨-, heq⟩ := encodeBit_cases s
  all_goals rw [heq]
  · exact beginPulse_recordsStop s.takeBit _ _
  · exact .refuse _ s rfl

theorem advanceLed_recordsStop : RecordsStop s.fault s.refused (execAdvanceLed s) := by
  obtain ⟨-, heq⟩ | ⟨-, ⟨-, heq⟩ | ⟨base, -, ⟨-, heq⟩ | ⟨index, -, ⟨-, heq⟩ | ⟨-, heq⟩ | ⟨colour, -, heq⟩⟩⟩⟩ :=
    advanceLed_cases s
  all_goals rw [heq]
  · exact enterGap_recordsStop s
  · exact .refuse _ s rfl
  · exact .raise _ s rfl
  · exact .raise _ s rfl
  · exact .refuse _ s rfl
  · exact encodeBit_recordsStop (s.loadLed colour)

theorem resume_recordsStop : RecordsStop s.fault s.refused (execResume s) := by
  obtain ⟨-, heq⟩ | ⟨-, heq⟩ | ⟨-, heq⟩ := resume_cases s
  all_goals rw [heq]
  · exact .refuse _ s rfl
  · exact encodeBit_recordsStop s
  · exact advanceLed_recordsStop s

theorem runHandler_recordsStop (h : Handler) : RecordsStop s.fault s.refused (runHandler h s) := by
  cases h with
  | noHandler => exact .refuse _ s rfl
  | fall => exact fall_recordsStop s
  | resume => exact resume_recordsStop s
  | gapDone => exact .next _

theorem tick_recordsStop : RecordsStop s.fault s.refused (execTick s) := by
  obtain ⟨-, heq⟩ | ⟨-, -, heq⟩ | ⟨-, -, heq⟩ | ⟨-, -, heq⟩ := tick_cases s
  all_goals rw [heq]
  · exact .next _
  · exact .refuse _ s.advanceTime rfl
  · exact .next _
  · exact runHandler_recordsStop s.advanceTime.countDown.clearTimer _

theorem init_recordsStop (pin : Operand) : RecordsStop s.fault s.refused (execInit pin s) := by
  obtain ⟨-, heq⟩ | ⟨-, -, -, heq⟩ | ⟨-, -, heq⟩ := init_cases pin s
  all_goals rw [heq]
  · exact .raise _ s rfl
  · exact .refuse _ s rfl
  · exact .next _

theorem write_recordsStop (addr : Operand) : RecordsStop s.fault s.refused (execWrite addr s) := by
  obtain ⟨-, heq⟩ | ⟨-, -, heq⟩ | ⟨-, -, heq⟩ := write_cases addr s
  all_goals rw [heq]
  · exact .raise _ s rfl
  · exact .next _
  · exact advanceLed_recordsStop (s.lock.beginFrame addr)

theorem exec_recordsStop (i : Instr) : RecordsStop s.fault s.refused (exec i s) := by
  cases i with
  | init pin => exact init_recordsStop s pin
  | write addr => exact write_recordsStop s addr
  | rdlock => exact .next _
  | tick => exact tick_recordsStop s
  | advanceLed => exact advanceLed_recordsStop s
  | encodeBit => exact encodeBit_recordsStop s
  | beginPulse => exact execBeginPulse_recordsStop s
  | enterGap => exact enterGap_recordsStop s
  | fall => exact fall_recordsStop s
  | resume => exact resume_recordsStop s
  | gapDone => exact .next _
  | arm handler ticks => exact arm_recordsStop s _ _
  | setPin level => exact .next _

end

end Sys2Proof.Machine

open Sys2Proof Sys2Proof.Machine

/-- Settles O16: every stop is one of `raise` or `refuse`, which record it, and a state that holds one has no step. -/
theorem everyStopIsRecordedAndFinal : Obligations.EveryStopIsRecordedAndFinal := by
  intro i s
  have h := exec_recordsStop s i
  generalize exec i s = r at h ⊢
  cases h with
  | next t => exact ⟨fun _ => nofun, fun _ => nofun⟩
  | raise reason u hr =>
    refine ⟨?_, fun _ => nofun⟩
    rintro _ ⟨⟩
    exact ⟨reason, _, rfl, rfl, hr, step_of_faulted rfl⟩
  | refuse code u hf =>
    refine ⟨fun _ => nofun, ?_⟩
    rintro _ ⟨⟩
    exact ⟨code, _, rfl, rfl, hf, fun hs => step_of_refused (hf.trans hs) rfl⟩

/-- Settles O15: the fault is looked at first, then the refusal. -/
theorem faultedAndRefusedStatesHaveNoStep : Obligations.FaultedAndRefusedStatesHaveNoStep :=
  fun _ => ⟨fun _ => step_of_faulted, fun _ => step_of_refused⟩

end

section
/-! PROOFS. The rules on reset and hazards (70_reset_and_hazards.md): power-on (R240), the withdrawal of an admitted
byte (R244), and the clock's step when nothing is offered (R253). -/

namespace Sys2Proof.Machine

/-! ## Power-on (R240) -/

theorem powerOn_of_wellFormed {c : Config} (h : c.wellFormed = true) : powerOn c = .next (State.resetWith c) :=
  if_pos h

/-! ## A withdrawn byte (R244) -/

theorem step_withdraw {s : State} {addr : Operand} {rest : List Input} (hf : s.fault = none)
    (hr : s.refused = none) (hi : s.inputs = .withdraw addr :: rest) :
    step s = .next ((s.takeInput rest).hostWithdraw addr) := by
  simp only [step_of_running hf hr, enabledStep, hi, offerInput]

theorem memRead_hostWithdraw {s : State} (hm : Memory.wf s.mem = true) (addr : Operand) (x : Nat) :
    memRead (s.hostWithdraw addr) x = if x = addr.toNat then none else memRead s x := by
  split
  · next h =>
    subst h
    rw [memRead_of_lt addr.isLt]
    exact Memory.read_withdraw_same addr.toNat hm
  · next h => simp only [memRead, hostWithdraw_mem, Memory.read_withdraw_other s.mem h]

/-! ## Nothing offered (R253) -/

theorem step_of_no_inputs {s : State} (hf : s.fault = none) (hr : s.refused = none) (hi : s.inputs = []) :
    step s = exec .tick s.quiet := by
  simp only [step_of_running hf hr, enabledStep, hi]

end Sys2Proof.Machine

open Sys2Proof Sys2Proof.Machine

/-- Settles O14: the canonical form lists each address once, so no older byte shows where one is withdrawn. -/
theorem withdrawnByteIsNotAdmitted : Obligations.WithdrawnByteIsNotAdmitted := by
  intro s addr rest hf hr hm hi
  exact ⟨_, step_withdraw hf hr hi, memRead_hostWithdraw hm addr⟩

/-- Settles O8: the check decides which of the two states power-on leaves; reset holds no fault, so a refused one has
no step, and the platform's configuration passes the check. -/
theorem powerOnChecksTheConfiguration : Obligations.PowerOnChecksTheConfiguration :=
  ⟨fun _ => powerOn_of_wellFormed,
    fun _ h => ⟨_, powerOn_of_malformed h, rfl, step_of_refused rfl rfl⟩,
    powerOn_of_wellFormed Config.platform_wellFormed⟩

/-- Settles O12: with no input to take, the enabled step is the clock's strobe. -/
theorem nothingOfferedIsATick : Obligations.NothingOfferedIsATick :=
  fun _ => step_of_no_inputs

end
